-- ==== Sys2Proof/Word.lean ====
section
/-! DEFINITION. The word types of the block: the 32-bit command and response word (R80, R46), the 16-bit
registers (R33, R34, R37), the 8-bit channel intensities (R87) and the 24-bit frame latch (R42). -/

namespace Sys2Proof

/-- One command or response word, bits numbered 0 (least significant) to 31 (R62). -/
abbrev Word := BitVec 32

/-- A 16-bit register value: PW, FT, SEC (R6: W_PW, W_FT and W_SEC are fixed at 16). -/
abbrev Half := BitVec 16

/-- An 8-bit unsigned channel intensity (R87). -/
abbrev Channel := BitVec 8

/-- The value of the frame latch ENC.FRAME (R42). -/
abbrev Frame := BitVec 24

/-- `zext_32` of R9: zero-extension to a full response word. -/
abbrev zext32 {n : Nat} (v : BitVec n) : Word := v.setWidth 32

end Sys2Proof
end

