-- ==== Sys2Proof/Syntax.lean ====
section
/-! DEFINITION. The host commands: one constructor for each row of spec/opcode_table.json (R88). -/

namespace Sys2Proof

/-- A legal host command with its operands as R87 reads them from the word. An illegal word is no command: the
decoder rejects it and the host phase gives it the effect of R167. -/
inductive Instr where
  /-- NOP, format Z (R86, R160). -/
  | nop
  /-- SEND r, g, b, format C (R82, R100). -/
  | send (r g b : Channel)
  /-- WR.PW v, format H (R83, R140). -/
  | wrPw (v : Half)
  /-- WR.CTRL e, format E (R84, R142). -/
  | wrCtrl (e : Bool)
  /-- RD.STATUS, format S with SEL 0 (R85, R162). -/
  | rdStatus
  /-- RD.FT, format S with SEL 1 (R85, R163). -/
  | rdFt
  /-- RD.PW, format S with SEL 2 (R85, R164). -/
  | rdPw
  /-- RD.CTRL, format S with SEL 3 (R85, R165). -/
  | rdCtrl
  /-- RD.SEC, format S with SEL 4 (R85, R166). -/
  | rdSec
  deriving DecidableEq, Repr

end Sys2Proof
end

