-- ==== Sys2Proof/Decode.lean ====
section
/-! DEFINITION. The command decoder and encoder: the fields of R81 and R87, the map of R88, the decoding of R89, the
classes of illegal words of R90, and the encoder of R92. -/

namespace Sys2Proof

/-! ### Fields of a command word -/

/-- OP, w[31:28] (R81). -/
def fieldOp (w : Word) : BitVec 4 := w.extractLsb' 28 4
/-- SEL, w[27:24] (R81, R87). -/
def fieldSel (w : Word) : BitVec 4 := w.extractLsb' 24 4
/-- PAY, w[23:0] (R81). -/
def fieldPay (w : Word) : BitVec 24 := w.extractLsb' 0 24
/-- R, w[23:16] (R82, R87). -/
def fieldR (w : Word) : Channel := w.extractLsb' 16 8
/-- G, w[15:8] (R82, R87). -/
def fieldG (w : Word) : Channel := w.extractLsb' 8 8
/-- B, w[7:0] (R82, R87). -/
def fieldB (w : Word) : Channel := w.extractLsb' 0 8
/-- V, w[15:0] (R83, R87). -/
def fieldV (w : Word) : Half := w.extractLsb' 0 16
/-- E, w[0] (R84, R87). -/
def fieldE (w : Word) : Bool := w.getLsbD 0

/-! ### The command map (R88) -/

/-- One row of the command map: a word selects it when `w AND mask = match`. -/
structure Row where
  /-- the table's mnemonic -/
  mnemonic : String
  /-- the row's `match` -/
  pattern : Word
  /-- the row's `mask` -/
  mask : Word
  /-- the command a word of this row stands for, its operands read by R87 -/
  build : Word → Instr

/-- `(w AND row.mask) = row.match` (R88). -/
def Row.selects (row : Row) (w : Word) : Bool := w &&& row.mask == row.pattern

/-- The nine rows of R88. -/
def opcodeTable : List Row :=
  [ ⟨"NOP",       0x00000000#32, 0xFFFFFFFF#32, fun _ => .nop⟩,
    ⟨"SEND",      0x10000000#32, 0xFF000000#32, fun w => .send (fieldR w) (fieldG w) (fieldB w)⟩,
    ⟨"WR.PW",     0x20000000#32, 0xFFFF0000#32, fun w => .wrPw (fieldV w)⟩,
    ⟨"WR.CTRL",   0x30000000#32, 0xFFFFFFFE#32, fun w => .wrCtrl (fieldE w)⟩,
    ⟨"RD.STATUS", 0x40000000#32, 0xFFFFFFFF#32, fun _ => .rdStatus⟩,
    ⟨"RD.FT",     0x41000000#32, 0xFFFFFFFF#32, fun _ => .rdFt⟩,
    ⟨"RD.PW",     0x42000000#32, 0xFFFFFFFF#32, fun _ => .rdPw⟩,
    ⟨"RD.CTRL",   0x43000000#32, 0xFFFFFFFF#32, fun _ => .rdCtrl⟩,
    ⟨"RD.SEC",    0x44000000#32, 0xFFFFFFFF#32, fun _ => .rdSec⟩ ]

/-! ### Decoding (R89, R90) -/

/-- The classes of illegal words, in the order of R90. -/
inductive IllegalWord where
  /-- OP = 0x5 to 0xF: a reserved operation -/
  | reservedOp
  /-- OP = 0x0 with any of w[27:0] non-zero -/
  | nonzeroNop
  /-- OP = 0x1 with w[27:24] non-zero -/
  | sendSelNonzero
  /-- OP = 0x2 with w[27:16] non-zero -/
  | wrPwHighNonzero
  /-- OP = 0x3 with w[27:1] non-zero -/
  | wrCtrlHighNonzero
  /-- OP = 0x4 with SEL = 5 to 15, or with w[23:0] non-zero -/
  | rdReserved
  deriving DecidableEq, Repr

/-- The class of R90 a word that selects no row falls into: on such a word OP alone decides it. -/
def illegalClass (w : Word) : IllegalWord :=
  match (fieldOp w).toNat with
  | 0 => .nonzeroNop
  | 1 => .sendSelNonzero
  | 2 => .wrPwHighNonzero
  | 3 => .wrCtrlHighNonzero
  | 4 => .rdReserved
  | _ => .reservedOp

/-- R89: the row the word selects, or illegal, rejected under the name of its class. Total on all 2^32 words. -/
def decode (w : Word) : Except IllegalWord Instr :=
  match opcodeTable.find? (fun row => row.selects w) with
  | some row => .ok (row.build w)
  | none => .error (illegalClass w)

/-! ### Encoding (R82 to R86, R92) -/

/-- The word of a command, as the table of R92 writes it. -/
def encode : Instr → Word
  | .nop => 0x00000000#32
  | .send r g b => 0x10000000#32 ||| r.setWidth 32 <<< 16 ||| g.setWidth 32 <<< 8 ||| b.setWidth 32
  | .wrPw v => 0x20000000#32 ||| v.setWidth 32
  | .wrCtrl e => 0x30000000#32 ||| (BitVec.ofBool e).setWidth 32
  | .rdStatus => 0x40000000#32
  | .rdFt => 0x41000000#32
  | .rdPw => 0x42000000#32
  | .rdCtrl => 0x43000000#32
  | .rdSec => 0x44000000#32

/-- The command word whose low `nbits` bits are those of `w`, every bit above them 0. The block has one 32-bit
word per command and no byte lanes (R62, R80), so bit i of the number is bit i of the word. -/
def tableWord (nbits w : Nat) : Word := BitVec.ofNat 32 (w % 2 ^ nbits)

/-- The command the decoder reads from a table word; none where it rejects it. -/
def decodeTableWord (nbits w : Nat) : Option Instr :=
  match decode (tableWord nbits w) with
  | .ok i => some i
  | .error _ => none

end Sys2Proof
end

