-- ==== Sys2Proof/Config.lean ====
section
/-! DEFINITION. The implementation parameters of R6, the constraint check of R8, the two example sets of R7, and
the free values: constants with no body, so that nothing can rest on what they are. -/

namespace Sys2Proof.Config

/-- W_PW, W_FT and W_SEC of R6: fixed at 16. -/
def registerBits : Nat := 16

/-- TICK_PEND_DEPTH of R6: one tick event can wait, so TPEND is one bit (R39). -/
def tickPendDepth : Nat := 1

/-- N_PIXELS of R6: one LED (R4). -/
def nPixels : Nat := 1

/-- The bits of one frame: 24 for each pixel (R4, R95). -/
def frameBits : Nat := 24 * nPixels

/-- A tuple of the parameters of R6 that a model takes as arguments, not yet checked. -/
structure ParamTuple where
  /-- F_CLK_HZ: frequency of CLK. OPEN. No rule depends on it (R223). -/
  fClkHz : Nat
  /-- T_BIT_CYC: the total bit period in CLK cycles. OPEN. -/
  tBitCyc : Nat
  /-- T0H_CYC: high time of a 0 bit. OPEN. -/
  t0hCyc : Nat
  /-- T1H_CYC: high time of a 1 bit. OPEN. -/
  t1hCyc : Nat
  /-- T_RESET_CYC: the low time that ends a frame. OPEN. -/
  tResetCyc : Nat
  /-- TICK_CYC: the tick period in CLK cycles. OPEN. -/
  tickCyc : Nat
  /-- FRAME_LEN: servo frame length in ticks. Default 2000. -/
  frameLen : Nat := 2000
  /-- FRAMES_PER_SEC: completed frames per counted second. Default 50. -/
  framesPerSec : Nat := 50
  deriving DecidableEq, Repr

/-- The constraints of the table of R6. -/
def ParamTuple.legal (t : ParamTuple) : Bool :=
  decide (0 < t.fClkHz ∧ 1 ≤ t.t0hCyc ∧ t.t0hCyc < t.t1hCyc ∧ t.t1hCyc < t.tBitCyc ∧ 1 ≤ t.tResetCyc ∧
    1 ≤ t.tickCyc ∧ 1 ≤ t.frameLen ∧ t.frameLen ≤ 65536 ∧ 1 ≤ t.framesPerSec)

/-- A parameter tuple together with the fact that it meets R6. The rules give no meaning to any other (R8), so
the machine is only built over these. -/
structure Params extends ParamTuple where
  /-- The tuple meets every constraint of R6. -/
  isLegal : toParamTuple.legal = true
  deriving DecidableEq, Repr

/-- R8: a tuple that breaks a constraint is turned away. -/
def ParamTuple.check (t : ParamTuple) : Option Params :=
  if h : t.legal = true then some { toParamTuple := t, isLegal := h } else none

/-- Length of a frame in cycles, `24·T_BIT_CYC` (R102). -/
def Params.frameCycles (p : Params) : Nat := frameBits * p.tBitCyc

/-- R10, R223: the time `n` cycles take, in seconds, under the tuple's F_CLK_HZ. Used by no rule. -/
def Params.cyclesToSeconds (p : Params) (n : Nat) : ℚ := n / p.fClkHz

/-- Free value: one less than the F_CLK_HZ of the implementation (R6: OPEN, U6). -/
opaque freeClk : Nat
/-- Free value: one less than T0H_CYC (R6: OPEN, U5). -/
opaque freeT0h : Nat
/-- Free value: one less than T1H_CYC - T0H_CYC (R6: OPEN, U5). -/
opaque freeT1h : Nat
/-- Free value: one less than T_BIT_CYC - T1H_CYC (R6: OPEN, U5). -/
opaque freeTBit : Nat
/-- Free value: one less than T_RESET_CYC (R6: OPEN, U5). -/
opaque freeTReset : Nat
/-- Free value: one less than TICK_CYC (R6: OPEN, U5). -/
opaque freeTick : Nat

/-- Free value: `level(n)` for an n that R107 does not cover (n at or past the end of the frame), by the latched
frame and n. Only a state no run reaches asks for it. -/
opaque freeLevel : Frame → Nat → Bool

/-- The parameters of the implementation, as far as the spec fixes them: each OPEN one ranges over every value the
constraints of R6 admit, FRAME_LEN and FRAMES_PER_SEC stand at their defaults (R6). DESIGN CHOICE (log 1). -/
def params : Params where
  fClkHz := freeClk + 1
  t0hCyc := freeT0h + 1
  t1hCyc := freeT0h + freeT1h + 2
  tBitCyc := freeT0h + freeT1h + freeTBit + 3
  tResetCyc := freeTReset + 1
  tickCyc := freeTick + 1
  isLegal := by simp only [ParamTuple.legal, decide_eq_true_eq]; omega

/-- The example set EX16 of R7. Not normative: only tests use it. -/
def ex16 : Params where
  fClkHz := 16000000
  tBitCyc := 20
  t0hCyc := 6
  t1hCyc := 13
  tResetCyc := 800
  tickCyc := 160
  isLegal := by decide

/-- The example set EXS of R7. Not normative: only tests use it. R7 gives it no F_CLK_HZ and no rule reads one;
1 stands here so that the tuple meets R6. -/
def exs : Params where
  fClkHz := 1
  tBitCyc := 4
  t0hCyc := 1
  t1hCyc := 2
  tResetCyc := 8
  tickCyc := 5
  frameLen := 10
  framesPerSec := 2
  isLegal := by decide

end Sys2Proof.Config
end

