-- ==== Sys2Proof/Machine/State.lean ====
section
/-! DEFINITION. The state of the block as plain data (R33 to R45), its ports (R46), the causes of R184, the fault and
refusal names, and the reset state (R212). -/

namespace Sys2Proof.Machine

/-- What the outside drives into the block in one CLK cycle (R46). -/
structure PortInput where
  /-- RESET, the power-on reset input (R210) -/
  reset : Bool
  /-- CMD: the offered command word; none is distinct from every word (R46) -/
  cmd : Option Word
  deriving DecidableEq, Repr

/-- Nothing driven: RESET low and no word offered. -/
def PortInput.idle : PortInput := { reset := false, cmd := none }

/-- The state of the block between two cycles. -/
structure State where
  /-- The parameters of R6, fixed for a run (R214); no step writes them. -/
  params : Config.Params
  /-- PW, the pulse width in ticks (R33). -/
  pw : Half
  /-- FT, the frame tick (R34). -/
  ft : Half
  /-- CTRL.TICK_EN (R35). -/
  tickEn : Bool
  /-- TPEND, also STATUS bit 0 (R36, R39). -/
  tpend : Bool
  /-- STATUS.TOVR, bit 1, sticky (R36). -/
  tovr : Bool
  /-- STATUS.GAPV, bit 2, sticky (R36). -/
  gapv : Bool
  /-- STATUS.ILL, bit 3, sticky (R36). -/
  ill : Bool
  /-- SEC, the seconds count (R37). -/
  sec : Half
  /-- TPH, the tick phase (R38). -/
  tph : Nat
  /-- BUSY: a frame is being sent (R40). -/
  busy : Bool
  /-- ENC.N, the position in the frame in cycles (R41). -/
  encN : Nat
  /-- ENC.FRAME, the latched frame as green, red, blue (R42, R95). -/
  encFrame : Frame
  /-- LOWRUN, low cycles since the last frame, saturating (R43). -/
  lowrun : Nat
  /-- FRM, completed servo frames in the current second (R44). -/
  frm : Nat
  /-- LED_DOUT (R45). -/
  ledDout : Bool
  /-- SERVO_OUT (R45). -/
  servoOut : Bool
  /-- The model's own: what the outside drives in the coming cycles, the next cycle first; after the last entry
  nothing is driven (log 3). -/
  inputs : List PortInput
  /-- The model's own: RSP in the cycle just stepped (R46: an output, not architectural state; log 4). -/
  rsp : Option Word
  deriving DecidableEq, Repr

/-- The causes that `raise` can record, the sticky bits of STATUS (R184). -/
inductive Cause where
  /-- a tick event was lost: a status, not a fault (R182) -/
  | tovr
  /-- a SEND before the reset gap had elapsed (R111) -/
  | gapv
  /-- an illegal command word (R167) -/
  | ill
  deriving DecidableEq, Repr

/-- The fault classes of R182. The block itself never stops (R180, R183), so `step` never answers one; the judgement
of a run, `judgedStep` of Safety.lean, does. -/
inductive Fault where
  /-- STATUS.GAPV is 1. Raised by `judgedStep`. Safe: the judged run stops where the block goes on. -/
  | gapViolation
  /-- STATUS.ILL is 1. Raised by `judgedStep`. Safe: the judged run stops where the block goes on. -/
  | illegalCommand
  deriving DecidableEq, Repr

/-- Why the model gives no meaning. -/
inductive Refusal where
  /-- No meaning yet for the named command. No arm of `exec` answers it. Safe. -/
  | notModelled (mnemonic : String)
  /-- The parameter tuple breaks R6, and R8 has a model refuse it. Raised by `powerOn`, never by a step. Safe. -/
  | illegalParameters
  deriving DecidableEq, Repr

/-- The post-reset state of R212 under the parameters `p`, with nothing driven and no response. -/
def State.resetWith (p : Config.Params) : State where
  params := p
  pw := 0#16
  ft := 0#16
  tickEn := false
  tpend := false
  tovr := false
  gapv := false
  ill := false
  sec := 0#16
  tph := 0
  busy := false
  encN := 0
  encFrame := 0x000000#24
  lowrun := p.tResetCyc
  frm := 0
  ledDout := false
  servoOut := false
  inputs := []
  rsp := none

/-- The machine right after reset (R212), under the implementation's parameters (log 1). -/
def State.reset : State := State.resetWith Config.params

end Sys2Proof.Machine
end

