-- ==== Sys2Proof/Machine/Flags.lean ====
section
/-! DEFINITION. The status flags: the STATUS and CTRL words (R35, R36, R162, R165), the cause codes (R184), and the two
conditions that set a flag, the reset-gap check (R111) and the lost tick (R131). No command sets a flag as a side
effect of arithmetic (R49). -/

namespace Sys2Proof.Machine

/-- The cause code of R184: the bit of STATUS it is recorded in. -/
def Cause.code : Cause → Nat
  | .tovr => 1
  | .gapv => 2
  | .ill => 3

/-- STATUS as read (R36, R162): `zext_32(ILL : GAPV : TOVR : TPEND)`; bits [31:4] read 0. -/
def statusWord (s : State) : Word :=
  zext32 (BitVec.ofBool s.ill ++ BitVec.ofBool s.gapv ++ BitVec.ofBool s.tovr ++ BitVec.ofBool s.tpend)

/-- CTRL as read (R35, R165): TICK_EN at bit 0; bits [31:1] read 0. -/
def ctrlWord (s : State) : Word := zext32 (BitVec.ofBool s.tickEn)

/-- A SEND in this state comes before the reset gap has elapsed (R111): `LOWRUN < T_RESET_CYC`. -/
def gapTooShort (s : State) : Bool := decide (s.lowrun < s.params.tResetCyc)

/-- A tick event `ev` of this cycle finds one already pending and is lost (R131). -/
def tickLost (ev : Bool) (s : State) : Bool := ev && s.tpend

end Sys2Proof.Machine
end

