-- ==== Sys2Proof/Machine/Operands.lean ====
section
/-! DEFINITION. The operand forms: the register selector and its map (R61), the read of a selected register (R161), and
the colour operand as the frame latch holds it (R95, R101). -/

namespace Sys2Proof.Machine

/-- The registers the selector map names (R61). -/
inductive RegSel where
  /-- SEL 0 -/
  | status
  /-- SEL 1 -/
  | ft
  /-- SEL 2 -/
  | pw
  /-- SEL 3 -/
  | ctrl
  /-- SEL 4 -/
  | sec
  deriving DecidableEq, Repr

/-- The selector map of R61; 5 to 15 are reserved. -/
def selectReg (sel : BitVec 4) : Option RegSel :=
  match sel.toNat with
  | 0 => some .status
  | 1 => some .ft
  | 2 => some .pw
  | 3 => some .ctrl
  | 4 => some .sec
  | _ => none

/-- The SEL value of a register (R61). -/
def RegSel.code : RegSel → BitVec 4
  | .status => 0#4
  | .ft => 1#4
  | .pw => 2#4
  | .ctrl => 3#4
  | .sec => 4#4

/-- `zext_32(reg[sel])` (R161 to R166): a register narrower than 32 bits takes the low bits, the others read 0
(R62). -/
def readReg (s : State) : RegSel → Word
  | .status => statusWord s
  | .ft => zext32 s.ft
  | .pw => zext32 s.pw
  | .ctrl => ctrlWord s
  | .sec => zext32 s.sec

/-- The frame of a colour: `G : R : B` (R95, R100, R101). The bits are the command's bits, with no correction. -/
def colourFrame (r g b : Channel) : Frame := g ++ r ++ b

end Sys2Proof.Machine
end

