-- ==== Sys2Proof/Machine/Ops.lean ====
section
/-! DEFINITION. The named operations on the block's registers: one write for each, `raise` (R183), the reset of R210,
and the input port. The block has no memory, so there are no memory operations (R60). -/

namespace Sys2Proof.Machine

/-! ### Register writes: each register has one -/

/-- `PW <- v` (R33). -/
def State.setPw (s : State) (v : Half) : State := { s with pw := v }
/-- `FT <- v` (R34). -/
def State.setFt (s : State) (v : Half) : State := { s with ft := v }
/-- `TICK_EN <- v` (R35). -/
def State.setTickEn (s : State) (v : Bool) : State := { s with tickEn := v }
/-- `TPEND <- v` (R39). -/
def State.setTpend (s : State) (v : Bool) : State := { s with tpend := v }
/-- `SEC <- v` (R37). -/
def State.setSec (s : State) (v : Half) : State := { s with sec := v }
/-- `TPH <- v` (R38). -/
def State.setTph (s : State) (v : Nat) : State := { s with tph := v }
/-- `BUSY <- v` (R40). -/
def State.setBusy (s : State) (v : Bool) : State := { s with busy := v }
/-- `ENC.N <- v` (R41). -/
def State.setEncN (s : State) (v : Nat) : State := { s with encN := v }
/-- `ENC.FRAME <- v` (R42). -/
def State.setEncFrame (s : State) (v : Frame) : State := { s with encFrame := v }
/-- `LOWRUN <- v` (R43). -/
def State.setLowrun (s : State) (v : Nat) : State := { s with lowrun := v }
/-- `FRM <- v` (R44). -/
def State.setFrm (s : State) (v : Nat) : State := { s with frm := v }
/-- `LED_DOUT <- v` (R45). -/
def State.setLedDout (s : State) (v : Bool) : State := { s with ledDout := v }
/-- `SERVO_OUT <- v` (R45). -/
def State.setServoOut (s : State) (v : Bool) : State := { s with servoOut := v }
/-- What the outside will drive from the next cycle on. -/
def State.setInputs (s : State) (v : List PortInput) : State := { s with inputs := v }
/-- RSP is the word `w` in this cycle (R46). -/
def State.respond (s : State) (w : Word) : State := { s with rsp := some w }

/-! ### `raise Fault(X)` -/

/-- `raise Fault(c)` (R183): the block's whole exception entry. It sets the sticky bit of the cause and nothing else:
no state is saved, no control is transferred, and the rule that raised it goes on (R180, R189). There is no return
(R190). -/
def State.raise (s : State) (c : Cause) : State :=
  { s with
    tovr := s.tovr || decide (c = .tovr)
    gapv := s.gapv || decide (c = .gapv)
    ill := s.ill || decide (c = .ill) }

/-! ### Reset -/

/-- R210: every element takes its reset value (R212) and RSP is none. The parameters are fixed for a run (R214) and
what the outside will drive is not the block's. -/
def State.applyReset (s : State) : State := { State.resetWith s.params with inputs := s.inputs }

/-! ### The input port -/

/-- What is driven in the coming cycle. -/
def State.port (s : State) : PortInput := s.inputs.headD PortInput.idle

/-- What is driven `k` cycles after the coming one. -/
def State.portAt (s : State) (k : Nat) : PortInput := (s.inputs[k]?).getD PortInput.idle

/-- The cycle takes its port values; no response has been given in it yet (R46: RSP exists only in the cycle of its
command). -/
def State.takePort (s : State) : State := { s with inputs := s.inputs.tail, rsp := none }

end Sys2Proof.Machine
end

