-- ==== Sys2Proof/Machine/Encoder.lean ====
section
/-! DEFINITION. The bitstream encoder: the level function (R107), SEND (R100) and the encoder cycle, phase 5 (R108 to
R110). -/

namespace Sys2Proof.Machine

/-- The high time of a bit in cycles (R104). -/
def highTime (p : Config.Params) (b : Bool) : Nat := if b then p.t1hCyc else p.t0hCyc

/-- The bit of the frame at index `k` in time order: FRAME[23 - k] (R103). -/
def frameBit (f : Frame) (k : Nat) : Bool := f.getLsbD (23 - k)

/-- The level function of R107 for the latched frame `f`. R107 gives it for `n < 24·T_BIT_CYC`; past that the value
is free (log 6). -/
def level (p : Config.Params) (f : Frame) (n : Nat) : Bool :=
  if n < p.frameCycles then
    decide (n % p.tBitCyc < highTime p (frameBit f (n / p.tBitCyc)))
  else Config.freeLevel f n

/-- SEND (R100), run in phase 4 of the accepting cycle. A SEND before the reset gap raises GAPV and still sends its
frame (R111). -/
def execSend (r g b : Channel) (s : State) : Host.Outcome State Fault Refusal :=
  let s := if gapTooShort s then s.raise .gapv else s
  let s := s.setEncFrame (colourFrame r g b)
  let s := s.setBusy true
  let s := s.setEncN 0
  let s := s.setLedDout (level s.params s.encFrame 0)
  .next (s.setLowrun 0)

/-- `started`: 1 only if the accepted command was SEND (R54). -/
def startsFrame : Instr → Bool
  | .nop => false
  | .send _ _ _ => true
  | .wrPw _ => false
  | .wrCtrl _ => false
  | .rdStatus => false
  | .rdFt => false
  | .rdPw => false
  | .rdCtrl => false
  | .rdSec => false

/-- The frame end (R109): the last cycle of bit 23 is over. -/
def endFrame (s : State) : State := ((s.setBusy false).setLedDout false).setLowrun 1

/-- The next cycle of a running frame (R108). -/
def advanceFrame (s : State) : State :=
  let s := s.setEncN (s.encN + 1)
  s.setLedDout (level s.params s.encFrame s.encN)

/-- One more low cycle between frames, saturating (R110). -/
def countLow (s : State) : State := s.setLowrun (min (s.lowrun + 1) s.params.tResetCyc)

/-- Phase 5, ENCODER (R55, R108): nothing in the cycle a SEND started. -/
def phase5Encoder (started : Bool) (s : State) : State :=
  if started then s
  else if s.busy then
    if s.encN + 1 = s.params.frameCycles then endFrame s else advanceFrame s
  else countLow s

end Sys2Proof.Machine
end

