-- ==== Sys2Proof/Machine/HostAccess.lean ====
section
/-! DEFINITION. The host access commands: NOP (R160), the reads (R161 to R166), and the effect of an illegal word (R167). -/

namespace Sys2Proof.Machine

/-- The common read of R161: the response is the selected register, and no state is written. -/
def readCommand (sel : RegSel) (s : State) : State := s.respond (readReg s sel)

/-- NOP (R160). -/
def execNop (s : State) : Host.Outcome State Fault Refusal := .next s

/-- RD.STATUS (R162). Reading clears no sticky bit. -/
def execRdStatus (s : State) : Host.Outcome State Fault Refusal := .next (readCommand .status s)

/-- RD.FT (R163). -/
def execRdFt (s : State) : Host.Outcome State Fault Refusal := .next (readCommand .ft s)

/-- RD.PW (R164). -/
def execRdPw (s : State) : Host.Outcome State Fault Refusal := .next (readCommand .pw s)

/-- RD.CTRL (R165). -/
def execRdCtrl (s : State) : Host.Outcome State Fault Refusal := .next (readCommand .ctrl s)

/-- RD.SEC (R166). -/
def execRdSec (s : State) : Host.Outcome State Fault Refusal := .next (readCommand .sec s)

/-- `exec_ILLEGAL()` (R167): an illegal word is consumed and its only effect is to set STATUS.ILL. -/
def execIllegal (s : State) : State := s.raise .ill

end Sys2Proof.Machine
end

