-- ==== Sys2Proof/Machine/Servo.lean ====
section
/-! DEFINITION. The servo pulse generator and the tick source: phase 1 (R130), the tick service of phase 2 (R132 to R136),
phase 3 (R131), and the commands WR.PW (R140) and WR.CTRL (R142). -/

namespace Sys2Proof.Machine

/-- A tick event occurs in this cycle: ticks are enabled and TPH wraps (R130). -/
def tickEvent (s : State) : Bool := s.tickEn && decide (s.tph = s.params.tickCyc - 1)

/-- Phase 1, SOURCE (R130): whether there is a tick event in this cycle, and the state with TPH advanced. -/
def phase1Source (s : State) : Bool × State :=
  if s.tickEn = false then (false, s)
  else if s.tph = s.params.tickCyc - 1 then (true, s.setTph 0)
  else (false, s.setTph (s.tph + 1))

/-- `frame_complete()` (R136). -/
def frameComplete (s : State) : State :=
  if s.frm + 1 = s.params.framesPerSec then (s.setFrm 0).setSec (s.sec + 1#16)
  else s.setFrm (s.frm + 1)

/-- FT after one more tick (R133, R134): computed in 17 bits, 0 on reaching FRAME_LEN. -/
def nextTick (p : Config.Params) (ft : Half) : Half :=
  let t : BitVec 17 := ft.setWidth 17 + 1#17
  let t := if t.toNat = p.frameLen then 0#17 else t
  t.setWidth 16

/-- One tick service (R133): the whole interrupt handler body, one atomic update. DEDUCED (log 23): at FT = FRAME_LEN - 1
with SERVO_OUT = 1 the first clause of R145, read literally, drives the line low for every PW < FRAME_LEN. R133 to R135,
from which R145 is derived, wrap FT to 0 and compare 0 <= PW, which drives it high; the model follows them. -/
def tickService (s : State) : State :=
  let s := s.setTpend false
  let s := s.setFt (nextTick s.params s.ft)
  let s := s.setServoOut (s.ft.ule s.pw)
  if s.ft = 0#16 then frameComplete s else s

/-- Phase 2, SERVICE (R132): the service runs if and only if a tick is pending and no frame is being sent. -/
def phase2Service (s : State) : State :=
  if s.tpend = false ∨ s.busy = true then s else tickService s

/-- Phase 3, PEND (R131): the event of this cycle is recorded, or lost if one is already pending. -/
def phase3Pend (ev : Bool) (s : State) : State :=
  if ev = false then s
  else if tickLost ev s then s.raise .tovr
  else s.setTpend true

/-- WR.PW (R140): all 16 bits at once, with no range check (R65, R141). -/
def execWrPw (v : Half) (s : State) : Host.Outcome State Fault Refusal := .next (s.setPw v)

/-- WR.CTRL (R142): E = 0 also clears TPH and discards a pending tick; TOVR is not changed. -/
def execWrCtrl (e : Bool) (s : State) : Host.Outcome State Fault Refusal :=
  let s := s.setTickEn e
  .next (if e = false then (s.setTph 0).setTpend false else s)

end Sys2Proof.Machine
end

