-- ==== Sys2Proof/Machine/Dispatch.lean ====
section
/-! DEFINITION. The effect of an accepted command in phase 4 (R54): one arm per row of the command map (R88). -/

namespace Sys2Proof.Machine

def exec (i : Instr) (s : State) : Host.Outcome State Fault Refusal :=
  match i with
  | .nop => Sys2Proof.Machine.execNop s
  | .send r g b => Sys2Proof.Machine.execSend r g b s
  | .wrPw v => Sys2Proof.Machine.execWrPw v s
  | .wrCtrl e => Sys2Proof.Machine.execWrCtrl e s
  | .rdStatus => Sys2Proof.Machine.execRdStatus s
  | .rdFt => Sys2Proof.Machine.execRdFt s
  | .rdPw => Sys2Proof.Machine.execRdPw s
  | .rdCtrl => Sys2Proof.Machine.execRdCtrl s
  | .rdSec => Sys2Proof.Machine.execRdSec s

end Sys2Proof.Machine
end

