-- ==== Sys2Proof/Machine/Cycle.lean ====
section
/-! DEFINITION. One CLK cycle (R50): the five phases in their order, the host phase (R54), the reset cycle (R210), and the
offering of a word at the port. -/

namespace Sys2Proof.Machine

/-- Phases 1 to 3 (R51 to R53): source, service, pend. A host command of the same cycle sees their result (R70). -/
def beforeHost (s : State) : State :=
  let (ev, s) := phase1Source s
  phase3Pend ev (phase2Service s)

/-- The rest of an accepted command: `exec`'s answer with `started` beside it (R54). -/
def withStarted (started : Bool) : Host.Outcome State Fault Refusal → Host.Outcome (State × Bool) Fault Refusal
  | .next s => .next (s, started)
  | .fault r => .fault r
  | .refused r => .refused r

/-- Phase 4, HOST (R54). While BUSY = 1 the word is not accepted and nothing happens; otherwise an offered word is
decoded and executed, an illegal one by R167. The second component is `started`. -/
def phase4Host (cmd : Option Word) (s : State) : Host.Outcome (State × Bool) Fault Refusal :=
  if s.busy then .next (s, false)
  else
    match cmd with
    | none => .next (s, false)
    | some w =>
      match decode w with
      | .error _ => .next (execIllegal s, false)
      | .ok i => withStarted (startsFrame i) (exec i s)

/-- The end of the cycle after phase 4: phase 5 on its result (R50). -/
def afterHost : Host.Outcome (State × Bool) Fault Refusal → Host.Outcome State Fault Refusal
  | .next (s, started) => .next (phase5Encoder started s)
  | .fault r => .fault r
  | .refused r => .refused r

/-- One CLK cycle: under RESET every element takes its reset value and no phase runs (R210); otherwise the five
phases (R50). -/
def cycle (s : State) : Host.Outcome State Fault Refusal :=
  let input := s.port
  let s := s.takePort
  if input.reset then .next s.applyReset
  else afterHost (phase4Host input.cmd (beforeHost s))

/-- The word the block accepts in the coming cycle: none while BUSY = 1 (R54) or under RESET (R210). BUSY is not
changed by phases 1 to 3. -/
def acceptedWord (s : State) : Option Word :=
  if s.port.reset || s.busy then none else s.port.cmd

/-- The command the block accepts in the coming cycle, if it accepts one that decodes (R54, R89). -/
def acceptedInstr (s : State) : Option Instr :=
  match acceptedWord s with
  | none => none
  | some w =>
    match decode w with
    | .ok i => some i
    | .error _ => none

/-- The block accepts an illegal word in the coming cycle (R54, R167). -/
def acceptsIllegal (s : State) : Bool :=
  match acceptedWord s with
  | none => false
  | some w =>
    match decode w with
    | .ok _ => false
    | .error _ => true

/-- The block accepts a SEND in the coming cycle. -/
def acceptsSend (s : State) : Bool :=
  match acceptedInstr s with
  | none => false
  | some i => startsFrame i

/-- `s` with no word offered in the coming cycle and RESET low. -/
def State.withoutWord (s : State) : State := s.setInputs (PortInput.idle :: s.inputs.tail)

/-- `s` with the word `w` offered in the coming cycle and RESET low, in a block that can accept it: a frame still
being sent would hold the word (R54), so the encoder stands idle with the line low. Nothing else changes (log 7). -/
def State.offering (s : State) (w : Word) : State :=
  let s := s.setInputs ({ reset := false, cmd := some w } :: s.inputs.tail)
  if s.busy then (s.setBusy false).setLedDout false else s

end Sys2Proof.Machine
end

