-- ==== Sys2Proof/Machine/Step.lean ====
section
/-! DEFINITION. The step of the machine, one CLK cycle (R50), power-on under a parameter tuple (R8), and the placing of
a command word at the port. -/

namespace Sys2Proof.Machine

/-- One step: one CLK cycle. -/
def step (s : State) : Host.Outcome State Fault Refusal := cycle s

/-- Power-on under a parameter tuple: the reset state, or a refusal if the tuple breaks R6 (R8). -/
def powerOn (t : Config.ParamTuple) : Host.Outcome State Fault Refusal :=
  match t.check with
  | some p => .next (State.resetWith p)
  | none => .refused .illegalParameters

/-- `s` with the command word of `w` offered to the very next step. The block fetches nothing (R47); a word placed
here stands for the host's offer on CMD. -/
def State.withFetchWord (s : State) (nbits w : Nat) : State := s.offering (tableWord nbits w)

end Sys2Proof.Machine
end

