-- ==== Sys2Proof/WellFormed.lean ====
section
/-! DEFINITION. Well-formedness. A command written by hand carries numbers of any size, and R92 makes an operand
that does not fit its field an error: `AsmCommand` is that source form, `AsmCommand.wellFormed` the check. The
operands of `Instr` have their field's width by their type, so every `Instr` is well formed. -/

namespace Sys2Proof

/-- One source command of R92, or a pseudo-instruction of R93, with its operands as plain numbers. -/
inductive AsmCommand where
  /-- `NOP` -/
  | nop
  /-- `SEND r, g, b` -/
  | send (r g b : Nat)
  /-- `WR.PW v` -/
  | wrPw (v : Nat)
  /-- `WR.CTRL e` -/
  | wrCtrl (e : Nat)
  /-- `RD.STATUS` -/
  | rdStatus
  /-- `RD.FT` -/
  | rdFt
  /-- `RD.PW` -/
  | rdPw
  /-- `RD.CTRL` -/
  | rdCtrl
  /-- `RD.SEC` -/
  | rdSec
  /-- pseudo `TICK.ON` -/
  | tickOn
  /-- pseudo `TICK.OFF` -/
  | tickOff
  /-- pseudo `SERVO v` -/
  | servo (v : Nat)
  /-- pseudo `SEND.RGB24 c` -/
  | sendRgb24 (c : Nat)
  /-- pseudo `IDLE n`: no command word -/
  | idle (n : Nat)
  deriving DecidableEq, Repr

/-- Every operand fits its field (R92): channels 0..255, PW 0..65535, TICK_EN 0 or 1, a 24-bit colour. -/
def AsmCommand.wellFormed : AsmCommand → Bool
  | .nop => true
  | .send r g b => decide (r < 256 ∧ g < 256 ∧ b < 256)
  | .wrPw v => decide (v < 65536)
  | .wrCtrl e => decide (e < 2)
  | .rdStatus => true
  | .rdFt => true
  | .rdPw => true
  | .rdCtrl => true
  | .rdSec => true
  | .tickOn => true
  | .tickOff => true
  | .servo v => decide (v < 65536)
  | .sendRgb24 c => decide (c < 16777216)
  | .idle _ => true

/-- Well-formedness of a command: each operand lies in the range its field of R82 to R86 admits. The operand types
give the range, so the check holds of every command. -/
def Instr.wellFormed : Instr → Bool
  | .nop => true
  | .send r g b => decide (r.toNat < 256 ∧ g.toNat < 256 ∧ b.toNat < 256)
  | .wrPw v => decide (v.toNat < 65536)
  | .wrCtrl e => decide (e.toNat < 2)
  | .rdStatus => true
  | .rdFt => true
  | .rdPw => true
  | .rdCtrl => true
  | .rdSec => true

end Sys2Proof
end

