-- ==== Sys2Proof/Machine/HostProgram.lean ====
section
/-! DEFINITION. A host that follows the program convention of the examples (R94), the assembler that writes its programs
(R92, R93), and its run beside the block. The block itself admits any host (R94); nothing here is part of `step`. -/

namespace Sys2Proof.Machine

/-! ### Assembling (R92, R93) -/

/-- The command a well-formed source command stands for; pseudo-instructions expand as R93 says, and IDLE is no
command word. -/
def asmInstr : AsmCommand → Option Instr
  | .nop => some .nop
  | .send r g b => some (.send (BitVec.ofNat 8 r) (BitVec.ofNat 8 g) (BitVec.ofNat 8 b))
  | .wrPw v => some (.wrPw (BitVec.ofNat 16 v))
  | .wrCtrl e => some (.wrCtrl (decide (e = 1)))
  | .rdStatus => some .rdStatus
  | .rdFt => some .rdFt
  | .rdPw => some .rdPw
  | .rdCtrl => some .rdCtrl
  | .rdSec => some .rdSec
  | .tickOn => some (.wrCtrl true)
  | .tickOff => some (.wrCtrl false)
  | .servo v => some (.wrPw (BitVec.ofNat 16 v))
  | .sendRgb24 c =>
    let w : BitVec 24 := BitVec.ofNat 24 c
    some (.send (w.extractLsb' 16 8) (w.extractLsb' 8 8) (w.extractLsb' 0 8))
  | .idle _ => none

/-- One item of a host program (R94). -/
inductive HostItem where
  /-- offer this word until the block accepts it -/
  | command (w : Word)
  /-- offer no word for this many cycles with BUSY = 0 -/
  | idle (n : Nat)
  deriving DecidableEq, Repr

/-- R92, R93: the program item of a source command; none is the assembly error of an operand that does not fit. -/
def assemble (c : AsmCommand) : Option HostItem :=
  if c.wellFormed then
    match c with
    | .idle n => some (.idle n)
    | c => (asmInstr c).map (fun i => .command (encode i))
  else none

/-- The items of a whole source program. -/
def assembleAll : List AsmCommand → Option (List HostItem)
  | [] => some []
  | c :: cs =>
    match assemble c, assembleAll cs with
    | some i, some is => some (i :: is)
    | _, _ => none

/-! ### Reading source text (R92; log 15) -/

/-- The value of a decimal or hexadecimal digit. -/
def digitValue (c : Char) : Option Nat :=
  let n := c.toNat
  if 48 ≤ n ∧ n ≤ 57 then some (n - 48)
  else if 65 ≤ n ∧ n ≤ 70 then some (n - 55)
  else if 97 ≤ n ∧ n ≤ 102 then some (n - 87)
  else none

/-- Digits of the given base, continuing the number `acc`. -/
def digitsFrom (base acc : Nat) : List Char → Option Nat
  | [] => some acc
  | c :: cs =>
    match digitValue c with
    | some d => if d < base then digitsFrom base (acc * base + d) cs else none
    | none => none

/-- A number of R92: decimal, or hexadecimal after `0x`. -/
def parseNumber : List Char → Option Nat
  | [] => none
  | [c] => digitsFrom 10 0 [c]
  | c :: d :: cs =>
    if c = '0' ∧ d = 'x' then (if cs.isEmpty then none else digitsFrom 16 0 cs) else digitsFrom 10 0 (c :: d :: cs)

/-- Split at commas. -/
def splitCommas : List Char → List (List Char)
  | [] => [[]]
  | c :: cs =>
    match splitCommas cs with
    | [] => [[c]]
    | f :: fs => if c = ',' then [] :: f :: fs else (c :: f) :: fs

/-- Without the spaces at both ends. -/
def trimSpaces (l : List Char) : List Char :=
  ((l.dropWhile (· == ' ')).reverse.dropWhile (· == ' ')).reverse

/-- All numbers, or none if one of them does not read. -/
def parseNumbers : List (List Char) → Option (List Nat)
  | [] => some []
  | f :: fs =>
    match parseNumber (trimSpaces f), parseNumbers fs with
    | some n, some ns => some (n :: ns)
    | _, _ => none

/-- A mnemonic of R92 or R93 with the number of its operands and the command it makes. -/
structure AsmRow where
  name : List Char
  build : List Nat → Option AsmCommand

/-- The mnemonics of R92 and R93. -/
def asmTable : List AsmRow :=
  let plain (c : AsmCommand) : List Nat → Option AsmCommand := fun l => if l.isEmpty then some c else none
  let one (f : Nat → AsmCommand) : List Nat → Option AsmCommand := fun | [a] => some (f a) | _ => none
  [ ⟨['N','O','P'], plain .nop⟩,
    ⟨['S','E','N','D'], fun | [r, g, b] => some (.send r g b) | _ => none⟩,
    ⟨['W','R','.','P','W'], one .wrPw⟩,
    ⟨['W','R','.','C','T','R','L'], one .wrCtrl⟩,
    ⟨['R','D','.','S','T','A','T','U','S'], plain .rdStatus⟩,
    ⟨['R','D','.','F','T'], plain .rdFt⟩,
    ⟨['R','D','.','P','W'], plain .rdPw⟩,
    ⟨['R','D','.','C','T','R','L'], plain .rdCtrl⟩,
    ⟨['R','D','.','S','E','C'], plain .rdSec⟩,
    ⟨['T','I','C','K','.','O','N'], plain .tickOn⟩,
    ⟨['T','I','C','K','.','O','F','F'], plain .tickOff⟩,
    ⟨['S','E','R','V','O'], one .servo⟩,
    ⟨['S','E','N','D','.','R','G','B','2','4'], one .sendRgb24⟩,
    ⟨['I','D','L','E'], one .idle⟩ ]

/-- One line of source: a mnemonic, then operands separated by commas. -/
def parseLine (line : List Char) : Option AsmCommand :=
  let line := trimSpaces line
  let name := line.takeWhile (· != ' ')
  let rest := trimSpaces (line.drop name.length)
  let operands := if rest.isEmpty then some [] else parseNumbers (splitCommas rest)
  match asmTable.find? (fun row => row.name == name), operands with
  | some row, some ns => row.build ns
  | _, _ => none

/-! ### The host of R94 -/

/-- What the host offers in a cycle: the first item that is not an idle of no cycles (log 16). -/
def offerOf : List HostItem → Option Word
  | [] => none
  | .command w :: _ => some w
  | .idle 0 :: is => offerOf is
  | .idle (_ + 1) :: _ => none

/-- The program after a cycle in which BUSY was 0 at phase 4: the offered word was accepted, or one idle cycle went
by. -/
def itemDone : List HostItem → List HostItem
  | [] => []
  | .command _ :: is => is
  | .idle 0 :: is => itemDone is
  | .idle 1 :: is => is
  | .idle (n + 2) :: is => .idle (n + 1) :: is

/-- The program after a cycle: a held host stays where it is (R54, R94). -/
def afterCycle (held : Bool) (prog : List HostItem) : List HostItem := if held then prog else itemDone prog

/-- A host program beside the block. -/
structure HostRun where
  program : List HostItem
  block : State
  deriving DecidableEq, Repr

/-- The block as the host of R94 presents its offer to it in the coming cycle, RESET low. -/
def HostRun.presented (h : HostRun) : State :=
  h.block.setInputs [{ reset := false, cmd := offerOf h.program }]

/-- One cycle of host and block together. -/
def HostRun.step (h : HostRun) : Host.Outcome HostRun Fault Refusal :=
  match Sys2Proof.Machine.step h.presented with
  | .next s => .next { program := afterCycle h.block.busy h.program, block := s }
  | .fault r => .fault r
  | .refused r => .refused r

/-- `n` cycles of host and block together. -/
def HostRun.run : Nat → HostRun → Host.Outcome HostRun Fault Refusal
  | 0, h => .next h
  | n + 1, h =>
    match h.step with
    | .next h' => HostRun.run n h'
    | .fault r => .fault r
    | .refused r => .refused r

/-- The log of R94's programs: each accepted word with its cycle and its response. -/
def HostRun.log (cycle : Nat) : Nat → HostRun → List (Nat × Word × Option Word)
  | 0, _ => []
  | n + 1, h =>
    match h.step with
    | .next h' =>
      match acceptedWord h.presented with
      | some w => (cycle, w, h'.block.rsp) :: HostRun.log (cycle + 1) n h'
      | none => HostRun.log (cycle + 1) n h'
    | .fault _ => []
    | .refused _ => []

end Sys2Proof.Machine
end

