-- ==== Sys2Proof/Machine/Observe.lean ====
section
/-! DEFINITION. The observation of a run (R57): the two lines, RSP and STATUS in the post-state of each cycle. A claim is
about a finite prefix (R224). -/

namespace Sys2Proof.Machine

/-- What a run shows in the post-state of one cycle (R57). -/
structure Observation where
  /-- LED_DOUT -/
  led : Bool
  /-- SERVO_OUT -/
  servo : Bool
  /-- RSP of the cycle -/
  rsp : Option Word
  /-- the STATUS register -/
  status : Word
  deriving DecidableEq, Repr

/-- The observation in a post-state. -/
def observe (s : State) : Observation :=
  { led := s.ledDout, servo := s.servoOut, rsp := s.rsp, status := statusWord s }

/-- The observations of the next `n` cycles, oldest first. -/
def trace : Nat → State → List Observation
  | 0, _ => []
  | n + 1, s =>
    match step s with
    | .next s' => observe s' :: trace n s'
    | .fault _ => []
    | .refused _ => []

/-- The LED_DOUT post-states of the next `n` cycles. -/
def ledTrace (n : Nat) (s : State) : List Bool := (trace n s).map Observation.led

/-- The SERVO_OUT post-states of the next `n` cycles. -/
def servoTrace (n : Nat) (s : State) : List Bool := (trace n s).map Observation.servo

end Sys2Proof.Machine
end

