-- ==== Sys2Proof/Machine/Wire.lean ====
section
/-! DEFINITION. The reference decoder of R118: what a one-wire receiver takes from a finite sequence of LED_DOUT values.
It is an observation, not state of the block, and accepts the block's exact timing only (R120). -/

namespace Sys2Proof.Machine

/-- A maximal run of one level: the level and its length in cycles. -/
structure WireRun where
  level : Bool
  length : Nat
  deriving DecidableEq, Repr

/-- Put one more cycle in front of a run-length encoding. -/
def consRun (b : Bool) : List WireRun → List WireRun
  | [] => [⟨b, 1⟩]
  | r :: rs => if r.level = b then ⟨b, r.length + 1⟩ :: rs else ⟨b, 1⟩ :: r :: rs

/-- The run-length encoding of a sequence of levels, oldest first. -/
def wireRuns : List Bool → List WireRun
  | [] => []
  | b :: bs => consRun b (wireRuns bs)

/-- A separator: a low run of at least T_RESET_CYC. -/
def isSeparator (p : Config.Params) (r : WireRun) : Bool := !r.level && decide (p.tResetCyc ≤ r.length)

/-- The runs between two separators, or between a separator and an end of the sequence. -/
structure WireSegment where
  /-- no separator stands before it: it begins where the sequence begins -/
  atStart : Bool
  runs : List WireRun
  /-- the length of the separator after it; none if it ends the sequence -/
  after : Option Nat
  deriving DecidableEq, Repr

/-- Cut a run-length encoding at its separators; `rev` holds the runs of the current segment, newest first. R118 names
segments between two separators or between a separator and an end of L. DESIGN CHOICE (log 14): a sequence with no
separator at all, which R118 does not name, is one segment here, the whole sequence, and `decodeSegment` answers that
it is undecodable. -/
def cutSegments (p : Config.Params) (atStart : Bool) (rev : List WireRun) : List WireRun → List WireSegment
  | [] => [⟨atStart, rev.reverse, none⟩]
  | r :: rs =>
    if isSeparator p r then ⟨atStart, rev.reverse, some r.length⟩ :: cutSegments p false [] rs
    else cutSegments p atStart (r :: rev) rs

/-- What one segment carries. -/
inductive WireFrame where
  /-- the bits in time order -/
  | bits (bs : List Bool)
  /-- not decodable -/
  | undecodable
  deriving DecidableEq, Repr

/-- The bit of a high time: exactly T1H_CYC or exactly T0H_CYC, nothing else (R118, R120). -/
def bitOfHigh (p : Config.Params) (h : Nat) : Option Bool :=
  if h = p.t1hCyc then some true else if h = p.t0hCyc then some false else none

/-- The low time after the last high run is long enough; waived where the segment ends the sequence. -/
def lastLowOk (p : Config.Params) (h : Nat) : Option Nat → Bool
  | some l => decide (p.tBitCyc ≤ h + l)
  | none => true

/-- The bits of the runs of a segment: a high and a low run for each bit but the last, whose low time is the
separator after it. A low run that ends the sequence too early to be a separator counts as the waived one
(log 14). -/
def segmentBits (p : Config.Params) (after : Option Nat) : List WireRun → Option (List Bool)
  | [] => none
  | [r] => if r.level && lastLowOk p r.length after then (bitOfHigh p r.length).map (fun b => [b]) else none
  | r :: q :: rs =>
    if r.level && !q.level then
      match rs with
      | [] => if after.isNone then (bitOfHigh p r.length).map (fun b => [b]) else none
      | _ :: _ =>
        if r.length + q.length = p.tBitCyc then
          match bitOfHigh p r.length, segmentBits p after rs with
          | some b, some bs => some (b :: bs)
          | _, _ => none
        else none
    else none

/-- The decoding of one segment. One that begins where the sequence begins is undecodable: its start was not seen
(R118), or a low run shorter than a separator stands before it, or the sequence has no separator at all (log 14). -/
def decodeSegment (p : Config.Params) (g : WireSegment) : WireFrame :=
  if g.atStart then .undecodable
  else
    match segmentBits p g.after g.runs with
    | some bs => .bits bs
    | none => .undecodable

/-- `decode_wire` (R118): the segments that contain a high run, in time order. -/
def decodeWire (p : Config.Params) (l : List Bool) : List WireFrame :=
  ((cutSegments p true [] (wireRuns l)).filter (fun g => g.runs.any WireRun.level)).map (decodeSegment p)

/-- The bits of a frame in time order: FRAME[23] first (R95, R103). -/
def frameBitList (f : Frame) : List Bool := (List.range 24).map (frameBit f)

/-- A number from its bits, most significant first. -/
def natOfBits (bs : List Bool) : Nat := bs.foldl (fun n b => 2 * n + b.toNat) 0

/-- The colour a decoded segment carries, as (R, G, B): only a segment of exactly 24 bits is one (R118). -/
def colourOfBits (bs : List Bool) : Option (Channel × Channel × Channel) :=
  if bs.length = 24 then
    some (BitVec.ofNat 8 (natOfBits ((bs.drop 8).take 8)), BitVec.ofNat 8 (natOfBits (bs.take 8)),
      BitVec.ofNat 8 (natOfBits (bs.drop 16)))
  else none

/-- The waveform of a frame on the line, cycle by cycle (R102). -/
def frameWave (p : Config.Params) (f : Frame) : List Bool := (List.range p.frameCycles).map (level p f)

end Sys2Proof.Machine
end

