-- ==== Sys2Proof/Safety.lean ====
section
/-! DEFINITION. What a claim counts as a good run: the invariants of R56, the fault classes of R182, and the judgement
that turns a step into a fault where R182 has a model do so. The block's own step goes on (R180, R183). -/

namespace Sys2Proof.Machine

/-- The invariants of R56. -/
abbrev State.Inv (s : State) : Prop :=
  s.ft.toNat < s.params.frameLen ∧
  s.tph < s.params.tickCyc ∧
  (s.tickEn = false → s.tph = 0 ∧ s.tpend = false) ∧
  (s.busy = true → s.encN < s.params.frameCycles) ∧
  (s.busy = false → s.ledDout = false) ∧
  s.lowrun ≤ s.params.tResetCyc ∧
  s.frm < s.params.framesPerSec

/-- The faults of R182 that stand in a state. -/
def State.faults (s : State) : List Fault :=
  (if s.gapv then [.gapViolation] else []) ++ (if s.ill then [.illegalCommand] else [])

/-- The premise of R182 for a claim about decoded colours or the commands' effects: GAPV = 0 and ILL = 0. -/
abbrev State.Safe (s : State) : Prop := s.gapv = false ∧ s.ill = false

/-- A step as R182 has a model judge it: a fault from the cycle on in which GAPV or ILL is 1. -/
def judgedStep (s : State) : Host.Outcome State Fault Refusal :=
  match step s with
  | .next s' =>
    match s'.faults with
    | [] => .next s'
    | f :: _ => .fault f
  | .fault r => .fault r
  | .refused r => .refused r

/-- `n` judged steps, stopping at the first fault (R182). -/
def judgedRun : Nat → State → Host.Outcome State Fault Refusal
  | 0, s => .next s
  | n + 1, s =>
    match judgedStep s with
    | .next s' => judgedRun n s'
    | .fault r => .fault r
    | .refused r => .refused r

/-! ### Premises and comparisons that claims about runs use -/

/-- RESET stays low in the next `n` cycles. -/
abbrev State.NoReset (s : State) (n : Nat) : Prop := ∀ k < n, (s.portAt k).reset = false

/-- The word offered `k` cycles from now, if any, decodes to a command of the kind `what`. -/
def State.offersAt (s : State) (what : Instr → Bool) (k : Nat) : Bool :=
  match (s.portAt k).cmd with
  | none => false
  | some w =>
    match decode w with
    | .ok i => what i
    | .error _ => false

/-- No command of the kind `what` is offered `lo` or more and fewer than `hi` cycles from now. -/
abbrev State.NeverOffers (s : State) (what : Instr → Bool) (lo hi : Nat) : Prop :=
  ∀ k < hi, lo ≤ k → s.offersAt what k = false

/-- The command is `WR.CTRL 0`. -/
def isTickOff (i : Instr) : Bool := decide (i = .wrCtrl false)

/-- The command is `WR.CTRL 1`. -/
def isTickOn (i : Instr) : Bool := decide (i = .wrCtrl true)

/-- The command is a WR.PW. -/
def isWrPw (i : Instr) : Bool :=
  match i with
  | .nop => false
  | .send _ _ _ => false
  | .wrPw _ => true
  | .wrCtrl _ => false
  | .rdStatus => false
  | .rdFt => false
  | .rdPw => false
  | .rdCtrl => false
  | .rdSec => false

/-- Two states that the encoder cannot tell apart: the same parameters, encoder registers, line and inputs. -/
abbrev State.SameEncoder (s t : State) : Prop :=
  s.params = t.params ∧ s.busy = t.busy ∧ s.encN = t.encN ∧ s.encFrame = t.encFrame ∧ s.ledDout = t.ledDout ∧
    s.inputs = t.inputs

/-- A command word with its colour blotted out: every SEND becomes `SEND 0, 0, 0`. -/
def eraseWord (w : Word) : Word :=
  match decode w with
  | .ok i => if startsFrame i then encode (.send 0#8 0#8 0#8) else w
  | .error _ => w

/-- The same of what is driven in a cycle. -/
def erasePort (x : PortInput) : PortInput := { x with cmd := x.cmd.map eraseWord }

/-- A state with every colour blotted out: the latched frame, the level on the wire and the SENDs to come. -/
def State.eraseColour (s : State) : State :=
  { s with encFrame := 0#24, ledDout := false, inputs := s.inputs.map erasePort }

end Sys2Proof.Machine
end

