-- ==== Sys2Proof/Certificates/Slice0/Obligations.lean ====
section
/-! DEFINITION. The statements for the provers, each a rule of spec/ or a consequence of rules. The block has no memory
(R60), so a frame speaks of registers, flags and lines only. An equation `exec i s = .next { s with … }` says the
whole frame: every field not named after `with` is as it was, the parameters and the ports among them. -/

open Sys2Proof Sys2Proof.Machine Sys2Proof.Config

/-! ### Decoding and encoding -/

/-- Every command is well formed, and decoding its word gives it back with every operand (R82 to R89, R92). -/
def Obligations.DecodeGivesBackEncoded : Prop :=
  ∀ i : Instr, i.wellFormed = true ∧ decode (encode i) = .ok i

/-- A word that decodes is the encoding of what it decodes to: no bit of a legal word is ignored (R88, R91). -/
def Obligations.LegalWordIsItsEncoding : Prop :=
  ∀ (w : Word) (i : Instr), decode w = .ok i → encode i = w

/-- R89: no word selects two rows; a word that selects a row decodes to that row's command with its operands; a word
is illegal exactly if it selects none. -/
def Obligations.OneRowOrIllegal : Prop :=
  (∀ (w : Word) (j k : Nat) (q r : Row), opcodeTable[j]? = some q → opcodeTable[k]? = some r →
    q.selects w = true → r.selects w = true → j = k) ∧
  (∀ (w : Word) (i : Instr),
    decode w = .ok i ↔ ∃ row ∈ opcodeTable, row.selects w = true ∧ row.build w = i) ∧
  (∀ w : Word, (∃ e, decode w = .error e) ↔ ∀ row ∈ opcodeTable, row.selects w = false)

/-- The classes of illegal words of R90: a word is rejected under the name of a class exactly if it is in the class,
so a word is illegal exactly if it is in one of them. -/
def Obligations.IllegalWordClasses : Prop :=
  ∀ w : Word,
    (decode w = .error .reservedOp ↔ 5 ≤ (fieldOp w).toNat) ∧
    (decode w = .error .nonzeroNop ↔ fieldOp w = 0#4 ∧ w.extractLsb' 0 28 ≠ 0#28) ∧
    (decode w = .error .sendSelNonzero ↔ fieldOp w = 1#4 ∧ fieldSel w ≠ 0#4) ∧
    (decode w = .error .wrPwHighNonzero ↔ fieldOp w = 2#4 ∧ w.extractLsb' 16 12 ≠ 0#12) ∧
    (decode w = .error .wrCtrlHighNonzero ↔ fieldOp w = 3#4 ∧ w.extractLsb' 1 27 ≠ 0#27) ∧
    (decode w = .error .rdReserved ↔ fieldOp w = 4#4 ∧ (5 ≤ (fieldSel w).toNat ∨ fieldPay w ≠ 0#24))

/-- The selector map of R61 through the decoder: the five registers, and 5 to 15 reserved. -/
def Obligations.SelectorMap : Prop :=
  ∀ sel : BitVec 4, decode (0x4#4 ++ sel ++ 0#24) =
    (match selectReg sel with
    | some .status => .ok .rdStatus
    | some .ft => .ok .rdFt
    | some .pw => .ok .rdPw
    | some .ctrl => .ok .rdCtrl
    | some .sec => .ok .rdSec
    | none => .error .rdReserved)

/-- Words of every family and of some classes of illegal words, as the decode table of 95_test_vectors.md lists them. -/
def Obligations.SampleWordsDecode : Prop :=
  decode 0x00000000#32 = .ok .nop ∧
  decode 0x10FF0080#32 = .ok (.send 255#8 0#8 128#8) ∧
  decode 0x2000FFFF#32 = .ok (.wrPw 65535#16) ∧
  decode 0x30000001#32 = .ok (.wrCtrl true) ∧
  decode 0x40000000#32 = .ok .rdStatus ∧
  decode 0x44000000#32 = .ok .rdSec ∧
  decode 0x00000001#32 = .error .nonzeroNop ∧
  decode 0x11000000#32 = .error .sendSelNonzero ∧
  decode 0x20010000#32 = .error .wrPwHighNonzero ∧
  decode 0x30000002#32 = .error .wrCtrlHighNonzero ∧
  decode 0x45000000#32 = .error .rdReserved ∧
  decode 0xF0000000#32 = .error .reservedOp

/-- The assembler of R92 and R93, row by row: a command whose operands fit becomes the word of the table, with the operands
in their fields; one whose operand does not fit is an error, not a truncation; a pseudo-instruction is its expansion,
and IDLE is no command word. -/
def Obligations.AssembledWords : Prop :=
  assemble .nop = some (.command 0x00000000#32) ∧
  (∀ r g b : Nat, r < 256 → g < 256 → b < 256 →
    assemble (.send r g b) = some (.command (BitVec.ofNat 32 (0x10000000 + r * 65536 + g * 256 + b)))) ∧
  (∀ r g b : Nat, 256 ≤ r ∨ 256 ≤ g ∨ 256 ≤ b → assemble (.send r g b) = none) ∧
  (∀ v : Nat, v < 65536 → assemble (.wrPw v) = some (.command (BitVec.ofNat 32 (0x20000000 + v)))) ∧
  (∀ v : Nat, 65536 ≤ v → assemble (.wrPw v) = none) ∧
  (∀ e : Nat, e < 2 → assemble (.wrCtrl e) = some (.command (BitVec.ofNat 32 (0x30000000 + e)))) ∧
  (∀ e : Nat, 2 ≤ e → assemble (.wrCtrl e) = none) ∧
  assemble .rdStatus = some (.command 0x40000000#32) ∧ assemble .rdFt = some (.command 0x41000000#32) ∧
  assemble .rdPw = some (.command 0x42000000#32) ∧ assemble .rdCtrl = some (.command 0x43000000#32) ∧
  assemble .rdSec = some (.command 0x44000000#32) ∧
  assemble .tickOn = assemble (.wrCtrl 1) ∧ assemble .tickOff = assemble (.wrCtrl 0) ∧
  (∀ v : Nat, assemble (.servo v) = assemble (.wrPw v)) ∧
  (∀ c : Nat, assemble (.sendRgb24 c) = assemble (.send (c / 65536) (c / 256 % 256) (c % 256))) ∧
  (∀ c : Nat, c < 16777216 → assemble (.sendRgb24 c) = some (.command (BitVec.ofNat 32 (0x10000000 + c)))) ∧
  (∀ c : Nat, 16777216 ≤ c → assemble (.sendRgb24 c) = none) ∧
  (∀ n : Nat, assemble (.idle n) = some (.idle n))

/-! ### What each command does -/

/-- NOP completes and changes nothing (R160). -/
def Obligations.NopChangesNothing : Prop :=
  ∀ s : State, exec .nop s = .next s

/-- SEND completes in every state, with every effect of R100: GAPV if LOWRUN < T_RESET_CYC and the frame sent all the
same, the latch in the order green, red, blue, the line high; nothing else changes. -/
def Obligations.SendStartsFrame : Prop :=
  ∀ (r g b : Channel) (s : State), exec (.send r g b) s = .next
    { s with
      gapv := s.gapv || decide (s.lowrun < s.params.tResetCyc)
      encFrame := g ++ r ++ b
      busy := true
      encN := 0
      ledDout := true
      lowrun := 0 }

/-- WR.PW completes in every state with PW = V for every V, and changes nothing else (R140, R141). -/
def Obligations.WrPwWritesWholeRegister : Prop :=
  ∀ (v : Half) (s : State), exec (.wrPw v) s = .next { s with pw := v }

/-- WR.CTRL completes in every state: E = 1 sets TICK_EN and nothing else; E = 0 clears TICK_EN, TPH and TPEND and nothing
else, so TOVR, FT, PW, SERVO_OUT, FRM and SEC stay (R142). -/
def Obligations.WrCtrlSwitchesTicks : Prop :=
  ∀ s : State,
    exec (.wrCtrl true) s = .next { s with tickEn := true } ∧
    exec (.wrCtrl false) s = .next { s with tickEn := false, tph := 0, tpend := false }

/-- RD.STATUS completes in every state: the response has TPEND, TOVR, GAPV and ILL in bits 0 to 3 and 0 above, and
nothing else changes (R162). -/
def Obligations.RdStatusReadsFlags : Prop :=
  ∀ s : State, ∃ w : Word, exec .rdStatus s = .next { s with rsp := some w } ∧
    w.getLsbD 0 = s.tpend ∧ w.getLsbD 1 = s.tovr ∧ w.getLsbD 2 = s.gapv ∧ w.getLsbD 3 = s.ill ∧
    ∀ k, 4 ≤ k → w.getLsbD k = false

/-- RD.FT, RD.PW, RD.CTRL and RD.SEC complete in every state: the response is the register with the upper bits 0, and
nothing else changes (R163 to R166). -/
def Obligations.RegisterReadsRespond : Prop :=
  ∀ s : State,
    exec .rdFt s = .next { s with rsp := some (BitVec.ofNat 32 s.ft.toNat) } ∧
    exec .rdPw s = .next { s with rsp := some (BitVec.ofNat 32 s.pw.toNat) } ∧
    exec .rdCtrl s = .next { s with rsp := some (if s.tickEn then 1#32 else 0#32) } ∧
    exec .rdSec s = .next { s with rsp := some (BitVec.ofNat 32 s.sec.toNat) }

/-- No command writes FT, SEC, FRM or SERVO_OUT, nor TOVR or ILL, and every command completes (R180, R191). -/
def Obligations.CommandsLeaveServoCounters : Prop :=
  ∀ (i : Instr) (s : State), ∃ t, exec i s = .next t ∧
    t.ft = s.ft ∧ t.sec = s.sec ∧ t.frm = s.frm ∧ t.servoOut = s.servoOut ∧
    t.tovr = s.tovr ∧ t.ill = s.ill ∧ t.params = s.params ∧ t.inputs = s.inputs

/-! ### A step -/

/-- A step runs the decoded command: with RESET low, BUSY = 0 and the offered word decoding to `i`, the step is exec of
`i` on the state after phases 1 to 3, followed by phase 5 (R50, R54). -/
def Obligations.StepRunsDecodedCommand : Prop :=
  ∀ (s : State) (w : Word) (i : Instr), s.port = { reset := false, cmd := some w } → s.busy = false →
    decode w = .ok i → i.wellFormed = true →
    step s = (match exec i (beforeHost s.takePort) with
      | .next t => .next (phase5Encoder (startsFrame i) t)
      | .fault r => .fault r
      | .refused r => .refused r)

/-- A word placed at the port is run by the very next step, in every state: the model's reading of how a program comes
to run (log 7). -/
def Obligations.PlacedWordRunsNext : Prop :=
  ∀ (s : State) (w : Nat) (i : Instr), decodeTableWord 32 w = some i →
    ∃ t, exec i (beforeHost (s.withFetchWord 32 w).takePort) = .next t ∧
      step (s.withFetchWord 32 w) = .next (phase5Encoder (startsFrame i) t)

/-- The block never stops: every state steps to a next state (R180, R224). -/
def Obligations.StepAlwaysAnswersNext : Prop :=
  ∀ s : State, ∃ t, step s = .next t

/-- While BUSY = 1 an offered word is not accepted: the step is that of no word offered, and gives no response (R54,
R168). -/
def Obligations.BusyHoldsTheHost : Prop :=
  ∀ s : State, s.port.reset = false → s.busy = true →
    step s = step s.withoutWord ∧ ∃ t, step s = .next t ∧ t.rsp = none

/-- A NOP, once accepted, leaves the state as if no word had been offered (R160). -/
def Obligations.NopIsLikeNoWord : Prop :=
  ∀ s : State, s.port = { reset := false, cmd := some 0x00000000#32 } → s.busy = false →
    step s = step s.withoutWord

/-- An accepted illegal word sets ILL and has no other effect: the step is that of no word offered, with ILL set (R167). -/
def Obligations.IllegalWordOnlySetsIll : Prop :=
  ∀ (s : State) (w : Word) (e : IllegalWord), s.port = { reset := false, cmd := some w } → s.busy = false →
    decode w = .error e →
    ∃ t, step s.withoutWord = .next t ∧ t.rsp = none ∧ step s = .next { t with ill := true }

/-- A read has no side effect: the step is that of no word offered, but for the response, which is the selected
register as phases 1 to 3 of this cycle leave it (R70, R161). -/
def Obligations.ReadsHaveNoSideEffect : Prop :=
  ∀ (s : State) (w : Word) (sel : RegSel), s.port = { reset := false, cmd := some w } → s.busy = false →
    w = 0x4#4 ++ sel.code ++ 0#24 →
    ∃ t, step s.withoutWord = .next t ∧
      step s = .next { t with rsp := some (readReg (beforeHost s.takePort) sel) }

/-- R210: under RESET every element takes its reset value, no phase runs, there is no response and no word is accepted. (The
list of what the outside will drive is the model's own field and is left out of the comparison, log 3.) -/
def Obligations.ResetCycle : Prop :=
  ∀ s : State, s.port.reset = true →
    acceptedWord s = none ∧ ∃ t, step s = .next t ∧ { t with inputs := [] } = State.resetWith s.params

/-- R212: the reset value of every element, under every legal tuple, and the invariants of R56 in that state. -/
def Obligations.ResetValues : Prop :=
  ∀ p : Params,
    (State.resetWith p).pw = 0#16 ∧ (State.resetWith p).ft = 0#16 ∧ (State.resetWith p).tickEn = false ∧
    (State.resetWith p).tpend = false ∧ (State.resetWith p).tovr = false ∧ (State.resetWith p).gapv = false ∧
    (State.resetWith p).ill = false ∧ (State.resetWith p).sec = 0#16 ∧ (State.resetWith p).tph = 0 ∧
    (State.resetWith p).busy = false ∧ (State.resetWith p).encN = 0 ∧ (State.resetWith p).encFrame = 0x000000#24 ∧
    (State.resetWith p).lowrun = p.tResetCyc ∧ (State.resetWith p).frm = 0 ∧
    (State.resetWith p).ledDout = false ∧ (State.resetWith p).servoOut = false ∧ (State.resetWith p).Inv

/-- R8: a tuple that breaks a constraint of R6 is refused at power-on, and every other tuple starts a block in the reset
state under it. -/
def Obligations.IllegalParametersRefused : Prop :=
  ∀ t : ParamTuple,
    ((0 < t.fClkHz ∧ 1 ≤ t.t0hCyc ∧ t.t0hCyc < t.t1hCyc ∧ t.t1hCyc < t.tBitCyc ∧ 1 ≤ t.tResetCyc ∧ 1 ≤ t.tickCyc ∧
        1 ≤ t.frameLen ∧ t.frameLen ≤ 65536 ∧ 1 ≤ t.framesPerSec) →
      ∃ p : Params, p.toParamTuple = t ∧ powerOn t = .next (State.resetWith p)) ∧
    (¬ (0 < t.fClkHz ∧ 1 ≤ t.t0hCyc ∧ t.t0hCyc < t.t1hCyc ∧ t.t1hCyc < t.tBitCyc ∧ 1 ≤ t.tResetCyc ∧ 1 ≤ t.tickCyc ∧
        1 ≤ t.frameLen ∧ t.frameLen ≤ 65536 ∧ 1 ≤ t.framesPerSec) →
      powerOn t = .refused .illegalParameters)

/-! ### Invariants -/

/-- The machine right after reset meets the invariants of R56, whatever the implementation's OPEN parameters are. -/
def Obligations.ResetMeetsInvariants : Prop :=
  State.reset.Inv

/-- Every step keeps the invariants of R56, from every state that meets them and whatever is driven. -/
def Obligations.StepKeepsInvariants : Prop :=
  ∀ s t : State, s.Inv → step s = .next t → t.Inv

/-- R211: the sticky bits are cleared by reset and by nothing else. -/
def Obligations.StickyBitsClearedOnlyByReset : Prop :=
  ∀ s t : State, step s = .next t →
    (s.port.reset = true → t.tovr = false ∧ t.gapv = false ∧ t.ill = false) ∧
    (s.port.reset = false →
      (s.tovr = true → t.tovr = true) ∧ (s.gapv = true → t.gapv = true) ∧ (s.ill = true → t.ill = true))

/-- Each sticky bit is set exactly on the condition R184 gives: TOVR by a tick event while TPEND = 1 (as phase 2 leaves
it), GAPV by a SEND accepted with LOWRUN < T_RESET_CYC, ILL by an accepted illegal word. -/
def Obligations.StickyBitsSetOnCondition : Prop :=
  ∀ s t : State, s.port.reset = false → step s = .next t →
    t.tovr = (s.tovr || (tickEvent s && s.tpend && s.busy)) ∧
    t.gapv = (s.gapv || (acceptsSend s && decide (s.lowrun < s.params.tResetCyc))) ∧
    t.ill = (s.ill || acceptsIllegal s)

/-- R182: a judged step goes on exactly when the step's post-state has GAPV = 0 and ILL = 0, and otherwise faults with one
of the faults that stand; and without a reset the fault stays from that cycle on. -/
def Obligations.JudgementFaultsFromThatCycleOn : Prop :=
  ∀ s t : State, step s = .next t →
    (t.Safe → judgedStep s = .next t) ∧
    (¬ t.Safe → (∃ f ∈ t.faults, judgedStep s = .fault f) ∧
      (t.port.reset = false → ∃ f, judgedStep t = .fault f))

/-! ### Ticks and the servo -/

/-- The tick service (R133 to R136) in a whole cycle: FT steps modulo FRAME_LEN, SERVO_OUT compares the new FT with the
PW of before any write of the same cycle, and a completed frame counts. -/
def Obligations.TickServiceCycle : Prop :=
  ∀ s t : State, s.ft.toNat < s.params.frameLen → s.port.reset = false → s.tpend = true → s.busy = false →
    step s = .next t →
    t.ft.toNat = (s.ft.toNat + 1) % s.params.frameLen ∧
    t.servoOut = decide (t.ft.toNat ≤ s.pw.toNat) ∧
    (t.ft.toNat ≠ 0 → t.frm = s.frm ∧ t.sec = s.sec) ∧
    (t.ft.toNat = 0 → s.frm + 1 = s.params.framesPerSec → t.frm = 0 ∧ t.sec.toNat = (s.sec.toNat + 1) % 65536) ∧
    (t.ft.toNat = 0 → s.frm + 1 ≠ s.params.framesPerSec → t.frm = s.frm + 1 ∧ t.sec = s.sec)

/-- R137: SERVO_OUT has one writer, the tick service. Without a service (no tick pending, or a frame running) and without
a reset SERVO_OUT holds, and so do FT, FRM and SEC, whatever command is accepted. -/
def Obligations.NoServiceNoServoChange : Prop :=
  ∀ s t : State, s.port.reset = false → (s.tpend = false ∨ s.busy = true) → step s = .next t →
    t.servoOut = s.servoOut ∧ t.ft = s.ft ∧ t.frm = s.frm ∧ t.sec = s.sec

/-- The registers a command can write and the tick source, after a cycle without reset (R130 to R132, R140, R142): PW,
TICK_EN, TPH and TPEND; and a WR.PW or WR.CTRL gives no response (R168). -/
def Obligations.ControlRegistersNext : Prop :=
  ∀ s t : State, s.port.reset = false → step s = .next t →
    t.pw = (match acceptedInstr s with
      | some (.wrPw v) => v
      | _ => s.pw) ∧
    t.tickEn = (match acceptedInstr s with
      | some (.wrCtrl e) => e
      | _ => s.tickEn) ∧
    t.tph = (if acceptedInstr s = some (.wrCtrl false) then 0
      else if s.tickEn = true then (if s.tph = s.params.tickCyc - 1 then 0 else s.tph + 1)
      else s.tph) ∧
    t.tpend = (if acceptedInstr s = some (.wrCtrl false) then false else (tickEvent s || (s.tpend && s.busy))) ∧
    (∀ v, acceptedInstr s = some (.wrPw v) → t.rsp = none) ∧
    (∀ e, acceptedInstr s = some (.wrCtrl e) → t.rsp = none)

/-- R69: a tick service in the cycle that accepts WR.PW uses the PW value from before the write, and every service from the
next cycle on, until PW is written again or the block is reset, uses the written one. -/
def Obligations.PwSeenFromNextCycle : Prop :=
  ∀ (s : State) (q : Half), acceptedInstr s = some (.wrPw q) →
    (∀ t, s.tpend = true → step s = .next t → t.servoOut = decide (t.ft.toNat ≤ s.pw.toNat)) ∧
    (∀ (n : Nat) (t u : State), s.NoReset (n + 2) → s.NeverOffers isWrPw 1 (n + 1) →
      core.run (n + 1) s = .next t → t.tpend = true → t.busy = false → step t = .next u →
      u.servoOut = decide (u.ft.toNat ≤ q.toNat))

/-- SERVO_OUT = (FT <= PW) holds after a service and stays while PW is not written (R135, R219). -/
def Obligations.ServoLevelFollowsCompare : Prop :=
  ∀ s t : State, s.port.reset = false → (∀ v, acceptedInstr s ≠ some (.wrPw v)) → step s = .next t →
    ((s.tpend = true ∧ s.busy = false) ∨ s.servoOut = decide (s.ft.toNat ≤ s.pw.toNat)) →
    t.servoOut = decide (t.ft.toNat ≤ t.pw.toNat)

/-- With TICK_EN held at 1 there is exactly one tick event every TICK_CYC cycles: after n cycles TPH is TPH + n modulo
TICK_CYC, and the next cycle has an event exactly if TPH + n + 1 is a multiple of it (R130). -/
def Obligations.TickEventEveryPeriod : Prop :=
  ∀ (n : Nat) (s : State), s.tickEn = true → s.tph < s.params.tickCyc → s.NoReset n → s.NeverOffers isTickOff 0 n →
    ∃ t, core.run n s = .next t ∧ t.tickEn = true ∧ t.tph = (s.tph + n) % s.params.tickCyc ∧
      tickEvent t = decide ((s.tph + n + 1) % s.params.tickCyc = 0)

/-- The first tick after enabling (R143): with WR.CTRL 1 accepted in this cycle and ticks off before, the events come
1, 2, ... times TICK_CYC cycles later, while TICK_EN stays 1. -/
def Obligations.FirstTickAfterEnable : Prop :=
  ∀ (n : Nat) (s : State), s.Inv → s.tickEn = false → acceptedInstr s = some (.wrCtrl true) → s.NoReset (n + 1) →
    s.NeverOffers isTickOff 1 (n + 1) →
    ∃ t, core.run (n + 1) s = .next t ∧ tickEvent t = decide ((n + 1) % s.params.tickCyc = 0)

/-- Disabled ticks freeze the servo (R142, R219): with TICK_EN = 0 and no tick pending, and no WR.CTRL 1 or reset, SERVO_OUT,
FT, FRM and SEC hold for any number of cycles. -/
def Obligations.DisabledTicksFreezeServo : Prop :=
  ∀ (n : Nat) (s : State), s.tickEn = false → s.tpend = false → s.NoReset n → s.NeverOffers isTickOn 0 n →
    ∃ t, core.run n s = .next t ∧ t.servoOut = s.servoOut ∧ t.ft = s.ft ∧ t.frm = s.frm ∧ t.sec = s.sec

/-- The steady pulse (R138): FRAME_LEN consecutive services from the one that sets FT = 0 leave SERVO_OUT high after the
first PW + 1 and low after the others. -/
def Obligations.PulseIsPwPlusOneTicks : Prop :=
  ∀ (s : State) (j : Nat), s.ft.toNat = s.params.frameLen - 1 → s.pw.toNat < s.params.frameLen - 1 →
    j < s.params.frameLen →
    (tickService^[j + 1] s).ft.toNat = j ∧ (tickService^[j + 1] s).servoOut = decide (j < s.pw.toNat + 1)

/-- A PW of FRAME_LEN - 1 or more keeps SERVO_OUT high after every service (R139). -/
def Obligations.WidePulseNeverFalls : Prop :=
  ∀ (s : State) (n : Nat), s.ft.toNat < s.params.frameLen → s.params.frameLen - 1 ≤ s.pw.toNat →
    (tickService^[n + 1] s).servoOut = true

/-- SEC advances once every FRAME_LEN·FRAMES_PER_SEC services (R147). -/
def Obligations.SecondEveryFrameCount : Prop :=
  ∀ s : State, s.ft.toNat < s.params.frameLen → s.frm < s.params.framesPerSec →
    (tickService^[s.params.frameLen * s.params.framesPerSec] s).sec = s.sec + 1#16 ∧
    (tickService^[s.params.frameLen * s.params.framesPerSec] s).ft = s.ft ∧
    (tickService^[s.params.frameLen * s.params.framesPerSec] s).frm = s.frm

/-! ### The frame on the wire -/

/-- The encoder's registers after a cycle without reset (R100, R108 to R110): an accepted SEND starts a frame, a running
frame goes on or ends, and otherwise LOWRUN counts up to T_RESET_CYC. That ENC.N keeps its value at the frame end and in a
cycle between frames, and ENC.FRAME while BUSY = 0, is the model's choice (log 10): U3 allows any value there. -/
def Obligations.EncoderNext : Prop :=
  ∀ s t : State, s.port.reset = false → step s = .next t →
    (∀ r g b, acceptedInstr s = some (.send r g b) →
      t.busy = true ∧ t.encN = 0 ∧ t.encFrame = g ++ r ++ b ∧ t.ledDout = true ∧ t.lowrun = 0) ∧
    (acceptsSend s = false → t.encFrame = s.encFrame) ∧
    (s.busy = true → s.encN + 1 = s.params.frameCycles →
      t.busy = false ∧ t.ledDout = false ∧ t.lowrun = 1 ∧ t.encN = s.encN) ∧
    (s.busy = true → s.encN + 1 ≠ s.params.frameCycles →
      t.busy = true ∧ t.encN = s.encN + 1 ∧ t.ledDout = level s.params s.encFrame (s.encN + 1) ∧ t.lowrun = s.lowrun) ∧
    (s.busy = false → acceptsSend s = false →
      t.busy = false ∧ t.ledDout = s.ledDout ∧ t.encN = s.encN ∧ t.lowrun = min (s.lowrun + 1) s.params.tResetCyc)

/-- R112: LED_DOUT changes only in a cycle that starts a frame or in which a frame runs or ends. -/
def Obligations.LedWrittenOnlyByEncoder : Prop :=
  ∀ s t : State, s.port.reset = false → step s = .next t → t.ledDout ≠ s.ledDout →
    s.busy = true ∨ acceptsSend s = true

/-- Within bit k the line is high for the first H cycles and low for the rest, where H is T1H_CYC or T0H_CYC by the bit
FRAME[23 - k] (R103, R104). -/
def Obligations.LevelWithinBit : Prop :=
  ∀ (p : Params) (f : Frame) (k c : Nat), k < 24 → c < p.tBitCyc →
    level p f (k * p.tBitCyc + c) = decide (c < if f.getLsbD (23 - k) then p.t1hCyc else p.t0hCyc)

/-- The number of high cycles in a frame (R116). -/
def Obligations.HighCyclesOfFrame : Prop :=
  ∀ (p : Params) (f : Frame),
    (frameWave p f).count true =
      24 * p.t0hCyc + ((List.range 24).countP (fun k => f.getLsbD k)) * (p.t1hCyc - p.t0hCyc)

/-- A frame is 24·T_BIT_CYC cycles long, whatever its colour and whatever else happens in the block: n cycles after the
accepting one, LED_DOUT is level(n) and BUSY is 1 (R102, R114). -/
def Obligations.FrameWaveform : Prop :=
  ∀ (s : State) (r g b : Channel) (n : Nat), acceptedInstr s = some (.send r g b) → n < s.params.frameCycles →
    s.NoReset (n + 1) →
    ∃ t, core.run (n + 1) s = .next t ∧ t.busy = true ∧ t.encN = n ∧ t.ledDout = level s.params (g ++ r ++ b) n

/-- The frame end (R109): 24·T_BIT_CYC cycles after the accepting one BUSY falls, the line is low and LOWRUN is 1. -/
def Obligations.FrameEndsOnTime : Prop :=
  ∀ s : State, acceptsSend s = true → s.NoReset (s.params.frameCycles + 1) →
    ∃ t, core.run (s.params.frameCycles + 1) s = .next t ∧
      t.busy = false ∧ t.ledDout = false ∧ t.lowrun = 1

/-- No tick service runs while a frame is being sent, and no word is accepted, legal or not (R54, R113, R114): n cycles after
the one that accepts SEND (R, G, B), up to the frame end, FT, SERVO_OUT, SEC and FRM are as phases 1 to 3 of the accepting
cycle left them and a tick pending then still is; PW, TICK_EN and ILL are as they were, GAPV is as the SEND left it,
and there is no response. While the frame runs the latch holds its colour and the next cycle accepts no word. -/
def Obligations.FrameIsNeverPreempted : Prop :=
  ∀ (s : State) (r g b : Channel) (n : Nat), acceptedInstr s = some (.send r g b) → n ≤ s.params.frameCycles →
    s.NoReset (n + 1) →
    ∃ t, core.run (n + 1) s = .next t ∧
      t.ft = (beforeHost s.takePort).ft ∧ t.servoOut = (beforeHost s.takePort).servoOut ∧
      t.sec = (beforeHost s.takePort).sec ∧ t.frm = (beforeHost s.takePort).frm ∧
      ((beforeHost s.takePort).tpend = true → t.tpend = true) ∧
      t.pw = s.pw ∧ t.tickEn = s.tickEn ∧ t.ill = s.ill ∧
      t.gapv = (s.gapv || decide (s.lowrun < s.params.tResetCyc)) ∧ t.rsp = none ∧
      (n < s.params.frameCycles → acceptedWord t = none ∧ t.encFrame = g ++ r ++ b)

/-- Ticks during a frame (R117): of the E tick events in the cycles from the accepting one to the frame end, one is left
pending if E >= 1, and TOVR is set if E >= 2; the pending one is serviced in the cycle after the frame end. With
TICK_EN = 1, E is (TPH + 24·T_BIT_CYC + 1) div TICK_CYC. -/
def Obligations.TicksDuringFrame : Prop :=
  ∀ s : State, s.Inv → acceptsSend s = true → s.tickEn = true → s.NoReset (s.params.frameCycles + 2) →
    ∃ t u, core.run (s.params.frameCycles + 1) s = .next t ∧ step t = .next u ∧
      t.tpend = decide (1 ≤ (s.tph + s.params.frameCycles + 1) / s.params.tickCyc) ∧
      t.tovr = (s.tovr || decide (2 ≤ (s.tph + s.params.frameCycles + 1) / s.params.tickCyc)) ∧
      u.ft.toNat = (t.ft.toNat + if t.tpend then 1 else 0) % s.params.frameLen

/-- No SEND can lose a tick, whatever its phase, if and only if 24·T_BIT_CYC + 1 <= TICK_CYC (R218). -/
def Obligations.NoTickLostIffFrameFitsTick : Prop :=
  ∀ p : Params,
    (∀ s t : State, s.params = p → s.Inv → acceptsSend s = true → s.tickEn = true → s.tovr = false →
      s.NoReset (p.frameCycles + 1) → core.run (p.frameCycles + 1) s = .next t → t.tovr = false) ↔
    p.frameCycles + 1 ≤ p.tickCyc

/-- LOWRUN counts the low cycles after a frame, saturating at T_RESET_CYC, and the line stays low, as long as no SEND and no
reset comes (R110). -/
def Obligations.LowrunCountsGap : Prop :=
  ∀ (n : Nat) (s : State), s.busy = false → s.ledDout = false → s.lowrun ≤ s.params.tResetCyc → s.NoReset n →
    s.NeverOffers startsFrame 0 n →
    ∃ t, core.run n s = .next t ∧ t.busy = false ∧ t.ledDout = false ∧
      t.lowrun = min (s.lowrun + n) s.params.tResetCyc

/-- The reset gap between frames (R217): for a frame that ended in cycle e and a SEND in cycle u = e + n + 1, GAPV is avoided
if and only if u - e >= T_RESET_CYC. -/
def Obligations.GapAvoidedIffLongEnough : Prop :=
  ∀ (n : Nat) (s : State), s.busy = false → s.ledDout = false → s.lowrun = 1 → s.gapv = false →
    s.NoReset (n + 1) → s.NeverOffers startsFrame 0 n → s.offersAt startsFrame n = true →
    ∃ t, core.run (n + 1) s = .next t ∧ t.busy = true ∧
      (t.gapv = false ↔ s.params.tResetCyc ≤ n + 1)

/-- After a SEND the host of R94 is held for the whole frame and its next command is accepted 24·T_BIT_CYC + 1 cycles after
the SEND, not before (R216). -/
def Obligations.HostHeldForWholeFrame : Prop :=
  ∀ (h : HostRun) (r g b : Channel) (w : Word) (rest : List HostItem), h.block.busy = false →
    h.program = .command (encode (.send r g b)) :: .command w :: rest →
    (∀ n, 1 ≤ n → n ≤ h.block.params.frameCycles →
      ∃ k, HostRun.run n h = .next k ∧ k.program = .command w :: rest ∧ acceptedWord k.presented = none) ∧
    (∃ k, HostRun.run (h.block.params.frameCycles + 1) h = .next k ∧ k.program = .command w :: rest ∧
      acceptedWord k.presented = some w)

/-! ### Headlines -/

/-- Nothing but the encoder's own registers and the offered words bears on LED_DOUT: two blocks that the encoder cannot tell
apart, whatever their ticks, PW, CTRL, counters and flags, show the same LED_DOUT for ever (R105, R112). -/
def Obligations.LedIndependentOfServo : Prop :=
  ∀ (n : Nat) (s t : State), s.SameEncoder t → ledTrace n s = ledTrace n t

/-- Data-independent timing (R105, R114): two runs that differ only in colours, latched or sent, differ in nothing but the
latched frame and the level on the wire: BUSY, the hold, the ticks, the servo, the flags and the responses are the
same in every cycle. -/
def Obligations.TimingIndependentOfColour : Prop :=
  ∀ (n : Nat) (s t s' t' : State), s.eraseColour = t.eraseColour → core.run n s = .next s' →
    core.run n t = .next t' → s'.eraseColour = t'.eraseColour

/-- The reference decoder reads back every frame from its waveform between two reset gaps (R95, R102, R118), where the reset
threshold is longer than the low time of a 0 bit. R6 does not ask for that, and without it the decoder takes the low
time inside the frame for a separator (log 22). -/
def Obligations.ReferenceDecoderReadsWaveform : Prop :=
  ∀ (p : Params) (f : Frame), p.tBitCyc < p.t0hCyc + p.tResetCyc →
    decodeWire p (List.replicate p.tResetCyc false ++ frameWave p f ++ List.replicate p.tResetCyc false) =
      [.bits ((List.range 24).map (fun k => f.getLsbD (23 - k)))]

/-- Where the reset threshold is no longer than the low time of a 0 bit, the reference decoder as R118 writes it cuts the
black frame into 24 segments of one bit each, so the round trip of R119 does not hold there (log 22). -/
def Obligations.ShortResetThresholdSplitsFrame : Prop :=
  ∀ p : Params, p.tResetCyc + p.t0hCyc ≤ p.tBitCyc →
    decodeWire p (List.replicate p.tResetCyc false ++ frameWave p 0#24 ++ List.replicate p.tResetCyc false) =
      List.replicate 24 (.bits [false])

/-- A 24-bit segment carries the colour it was sent with (R95, R118). -/
def Obligations.ColourOfDecodedBits : Prop :=
  ∀ r g b : Channel, colourOfBits (frameBitList (colourFrame r g b)) = some (r, g, b)

/-- The round trip of R119, where the reset threshold is longer than the low time of a 0 bit (log 22): a SEND of (R, G, B) accepted with LOWRUN = T_RESET_CYC, the line low for the T_RESET_CYC cycles
before it and no SEND for T_RESET_CYC cycles after the frame end. The reference decoder, applied to the line from
T_RESET_CYC cycles before the SEND to T_RESET_CYC cycles after the frame, yields exactly one segment of 24 bits:
G, R, B in that order, each most significant bit first. GAPV is not set. -/
def Obligations.SendRoundTripOnTheWire : Prop :=
  ∀ (s : State) (r g b : Channel), acceptedInstr s = some (.send r g b) → s.lowrun = s.params.tResetCyc →
    s.params.tBitCyc < s.params.t0hCyc + s.params.tResetCyc →
    s.NoReset (s.params.frameCycles + s.params.tResetCyc) →
    s.NeverOffers startsFrame (s.params.frameCycles + 1) (s.params.frameCycles + s.params.tResetCyc) →
    (∃ t, step s = .next t ∧ t.gapv = s.gapv) ∧
    decodeWire s.params
        (List.replicate s.params.tResetCyc false ++ ledTrace (s.params.frameCycles + s.params.tResetCyc) s) =
      [.bits ((List.range 8).map (fun k => g.getLsbD (7 - k)) ++ (List.range 8).map (fun k => r.getLsbD (7 - k)) ++
        (List.range 8).map (fun k => b.getLsbD (7 - k)))]

/-! ### Responses -/

/-- R168: a step responds exactly if it accepts one of the five reads. Without a word, under RESET, held, or accepting any
other command or an illegal word, it gives no response. -/
def Obligations.OnlyReadsRespond : Prop :=
  ∀ s t : State, step s = .next t →
    (t.rsp ≠ none ↔ ∃ sel : RegSel, acceptedWord s = some (0x4#4 ++ sel.code ++ 0#24))
end

