-- ==== Sys2Proof/Laws/Config.lean ====
section
/-! SUPPORT. What a legal parameter tuple gives: the constraints of R6 one by one. -/

namespace Sys2Proof.Config

variable (p : Params)

/-- The whole table of R6 at once. -/
theorem Params.constraints :
    0 < p.fClkHz ∧ 1 ≤ p.t0hCyc ∧ p.t0hCyc < p.t1hCyc ∧ p.t1hCyc < p.tBitCyc ∧ 1 ≤ p.tResetCyc ∧ 1 ≤ p.tickCyc ∧
      1 ≤ p.frameLen ∧ p.frameLen ≤ 65536 ∧ 1 ≤ p.framesPerSec := by
  simpa only [ParamTuple.legal, decide_eq_true_eq] using p.isLegal

theorem Params.t0h_pos : 0 < p.t0hCyc := p.constraints.2.1
theorem Params.t0h_lt_t1h : p.t0hCyc < p.t1hCyc := p.constraints.2.2.1
theorem Params.t1h_lt_tBit : p.t1hCyc < p.tBitCyc := p.constraints.2.2.2.1
theorem Params.tReset_pos : 0 < p.tResetCyc := p.constraints.2.2.2.2.1
theorem Params.tick_pos : 0 < p.tickCyc := p.constraints.2.2.2.2.2.1
theorem Params.frameLen_pos : 0 < p.frameLen := p.constraints.2.2.2.2.2.2.1
theorem Params.frameLen_le : p.frameLen ≤ 65536 := p.constraints.2.2.2.2.2.2.2.1
theorem Params.framesPerSec_pos : 0 < p.framesPerSec := p.constraints.2.2.2.2.2.2.2.2

theorem Params.tBit_pos : 0 < p.tBitCyc := by have := p.constraints; omega

theorem Params.frameCycles_eq : p.frameCycles = 24 * p.tBitCyc := rfl

theorem Params.frameCycles_pos : 0 < p.frameCycles := by
  have := p.tBit_pos
  rw [p.frameCycles_eq]; omega

/-- `check` answers the tuple itself, exactly when it is legal (R8). -/
theorem ParamTuple.check_eq_some {t : ParamTuple} : t.check = some p ↔ p.toParamTuple = t := by
  constructor
  · intro h
    unfold ParamTuple.check at h
    split at h
    · cases h; rfl
    · cases h
  · rintro rfl
    simp [ParamTuple.check, p.isLegal]

theorem ParamTuple.check_eq_none {t : ParamTuple} : t.check = none ↔ t.legal = false := by
  by_cases h : t.legal = true <;> simp [ParamTuple.check, h]

end Sys2Proof.Config
end

