-- ==== Sys2Proof/Laws/State.lean ====
section
/-! SUPPORT. What each update of the state leaves in each field: one lemma per field per update, so that no later
proof unfolds a record update. Every one is true by rfl. -/

namespace Sys2Proof.Machine

variable (s : State)

section
variable (v : Half)
@[simp] theorem State.setPw_params : (s.setPw v).params = s.params := rfl
@[simp] theorem State.setPw_pw : (s.setPw v).pw = v := rfl
@[simp] theorem State.setPw_ft : (s.setPw v).ft = s.ft := rfl
@[simp] theorem State.setPw_tickEn : (s.setPw v).tickEn = s.tickEn := rfl
@[simp] theorem State.setPw_tpend : (s.setPw v).tpend = s.tpend := rfl
@[simp] theorem State.setPw_tovr : (s.setPw v).tovr = s.tovr := rfl
@[simp] theorem State.setPw_gapv : (s.setPw v).gapv = s.gapv := rfl
@[simp] theorem State.setPw_ill : (s.setPw v).ill = s.ill := rfl
@[simp] theorem State.setPw_sec : (s.setPw v).sec = s.sec := rfl
@[simp] theorem State.setPw_tph : (s.setPw v).tph = s.tph := rfl
@[simp] theorem State.setPw_busy : (s.setPw v).busy = s.busy := rfl
@[simp] theorem State.setPw_encN : (s.setPw v).encN = s.encN := rfl
@[simp] theorem State.setPw_encFrame : (s.setPw v).encFrame = s.encFrame := rfl
@[simp] theorem State.setPw_lowrun : (s.setPw v).lowrun = s.lowrun := rfl
@[simp] theorem State.setPw_frm : (s.setPw v).frm = s.frm := rfl
@[simp] theorem State.setPw_ledDout : (s.setPw v).ledDout = s.ledDout := rfl
@[simp] theorem State.setPw_servoOut : (s.setPw v).servoOut = s.servoOut := rfl
@[simp] theorem State.setPw_inputs : (s.setPw v).inputs = s.inputs := rfl
@[simp] theorem State.setPw_rsp : (s.setPw v).rsp = s.rsp := rfl
end

section
variable (v : Half)
@[simp] theorem State.setFt_params : (s.setFt v).params = s.params := rfl
@[simp] theorem State.setFt_pw : (s.setFt v).pw = s.pw := rfl
@[simp] theorem State.setFt_ft : (s.setFt v).ft = v := rfl
@[simp] theorem State.setFt_tickEn : (s.setFt v).tickEn = s.tickEn := rfl
@[simp] theorem State.setFt_tpend : (s.setFt v).tpend = s.tpend := rfl
@[simp] theorem State.setFt_tovr : (s.setFt v).tovr = s.tovr := rfl
@[simp] theorem State.setFt_gapv : (s.setFt v).gapv = s.gapv := rfl
@[simp] theorem State.setFt_ill : (s.setFt v).ill = s.ill := rfl
@[simp] theorem State.setFt_sec : (s.setFt v).sec = s.sec := rfl
@[simp] theorem State.setFt_tph : (s.setFt v).tph = s.tph := rfl
@[simp] theorem State.setFt_busy : (s.setFt v).busy = s.busy := rfl
@[simp] theorem State.setFt_encN : (s.setFt v).encN = s.encN := rfl
@[simp] theorem State.setFt_encFrame : (s.setFt v).encFrame = s.encFrame := rfl
@[simp] theorem State.setFt_lowrun : (s.setFt v).lowrun = s.lowrun := rfl
@[simp] theorem State.setFt_frm : (s.setFt v).frm = s.frm := rfl
@[simp] theorem State.setFt_ledDout : (s.setFt v).ledDout = s.ledDout := rfl
@[simp] theorem State.setFt_servoOut : (s.setFt v).servoOut = s.servoOut := rfl
@[simp] theorem State.setFt_inputs : (s.setFt v).inputs = s.inputs := rfl
@[simp] theorem State.setFt_rsp : (s.setFt v).rsp = s.rsp := rfl
end

section
variable (v : Bool)
@[simp] theorem State.setTickEn_params : (s.setTickEn v).params = s.params := rfl
@[simp] theorem State.setTickEn_pw : (s.setTickEn v).pw = s.pw := rfl
@[simp] theorem State.setTickEn_ft : (s.setTickEn v).ft = s.ft := rfl
@[simp] theorem State.setTickEn_tickEn : (s.setTickEn v).tickEn = v := rfl
@[simp] theorem State.setTickEn_tpend : (s.setTickEn v).tpend = s.tpend := rfl
@[simp] theorem State.setTickEn_tovr : (s.setTickEn v).tovr = s.tovr := rfl
@[simp] theorem State.setTickEn_gapv : (s.setTickEn v).gapv = s.gapv := rfl
@[simp] theorem State.setTickEn_ill : (s.setTickEn v).ill = s.ill := rfl
@[simp] theorem State.setTickEn_sec : (s.setTickEn v).sec = s.sec := rfl
@[simp] theorem State.setTickEn_tph : (s.setTickEn v).tph = s.tph := rfl
@[simp] theorem State.setTickEn_busy : (s.setTickEn v).busy = s.busy := rfl
@[simp] theorem State.setTickEn_encN : (s.setTickEn v).encN = s.encN := rfl
@[simp] theorem State.setTickEn_encFrame : (s.setTickEn v).encFrame = s.encFrame := rfl
@[simp] theorem State.setTickEn_lowrun : (s.setTickEn v).lowrun = s.lowrun := rfl
@[simp] theorem State.setTickEn_frm : (s.setTickEn v).frm = s.frm := rfl
@[simp] theorem State.setTickEn_ledDout : (s.setTickEn v).ledDout = s.ledDout := rfl
@[simp] theorem State.setTickEn_servoOut : (s.setTickEn v).servoOut = s.servoOut := rfl
@[simp] theorem State.setTickEn_inputs : (s.setTickEn v).inputs = s.inputs := rfl
@[simp] theorem State.setTickEn_rsp : (s.setTickEn v).rsp = s.rsp := rfl
end

section
variable (v : Bool)
@[simp] theorem State.setTpend_params : (s.setTpend v).params = s.params := rfl
@[simp] theorem State.setTpend_pw : (s.setTpend v).pw = s.pw := rfl
@[simp] theorem State.setTpend_ft : (s.setTpend v).ft = s.ft := rfl
@[simp] theorem State.setTpend_tickEn : (s.setTpend v).tickEn = s.tickEn := rfl
@[simp] theorem State.setTpend_tpend : (s.setTpend v).tpend = v := rfl
@[simp] theorem State.setTpend_tovr : (s.setTpend v).tovr = s.tovr := rfl
@[simp] theorem State.setTpend_gapv : (s.setTpend v).gapv = s.gapv := rfl
@[simp] theorem State.setTpend_ill : (s.setTpend v).ill = s.ill := rfl
@[simp] theorem State.setTpend_sec : (s.setTpend v).sec = s.sec := rfl
@[simp] theorem State.setTpend_tph : (s.setTpend v).tph = s.tph := rfl
@[simp] theorem State.setTpend_busy : (s.setTpend v).busy = s.busy := rfl
@[simp] theorem State.setTpend_encN : (s.setTpend v).encN = s.encN := rfl
@[simp] theorem State.setTpend_encFrame : (s.setTpend v).encFrame = s.encFrame := rfl
@[simp] theorem State.setTpend_lowrun : (s.setTpend v).lowrun = s.lowrun := rfl
@[simp] theorem State.setTpend_frm : (s.setTpend v).frm = s.frm := rfl
@[simp] theorem State.setTpend_ledDout : (s.setTpend v).ledDout = s.ledDout := rfl
@[simp] theorem State.setTpend_servoOut : (s.setTpend v).servoOut = s.servoOut := rfl
@[simp] theorem State.setTpend_inputs : (s.setTpend v).inputs = s.inputs := rfl
@[simp] theorem State.setTpend_rsp : (s.setTpend v).rsp = s.rsp := rfl
end

section
variable (v : Half)
@[simp] theorem State.setSec_params : (s.setSec v).params = s.params := rfl
@[simp] theorem State.setSec_pw : (s.setSec v).pw = s.pw := rfl
@[simp] theorem State.setSec_ft : (s.setSec v).ft = s.ft := rfl
@[simp] theorem State.setSec_tickEn : (s.setSec v).tickEn = s.tickEn := rfl
@[simp] theorem State.setSec_tpend : (s.setSec v).tpend = s.tpend := rfl
@[simp] theorem State.setSec_tovr : (s.setSec v).tovr = s.tovr := rfl
@[simp] theorem State.setSec_gapv : (s.setSec v).gapv = s.gapv := rfl
@[simp] theorem State.setSec_ill : (s.setSec v).ill = s.ill := rfl
@[simp] theorem State.setSec_sec : (s.setSec v).sec = v := rfl
@[simp] theorem State.setSec_tph : (s.setSec v).tph = s.tph := rfl
@[simp] theorem State.setSec_busy : (s.setSec v).busy = s.busy := rfl
@[simp] theorem State.setSec_encN : (s.setSec v).encN = s.encN := rfl
@[simp] theorem State.setSec_encFrame : (s.setSec v).encFrame = s.encFrame := rfl
@[simp] theorem State.setSec_lowrun : (s.setSec v).lowrun = s.lowrun := rfl
@[simp] theorem State.setSec_frm : (s.setSec v).frm = s.frm := rfl
@[simp] theorem State.setSec_ledDout : (s.setSec v).ledDout = s.ledDout := rfl
@[simp] theorem State.setSec_servoOut : (s.setSec v).servoOut = s.servoOut := rfl
@[simp] theorem State.setSec_inputs : (s.setSec v).inputs = s.inputs := rfl
@[simp] theorem State.setSec_rsp : (s.setSec v).rsp = s.rsp := rfl
end

section
variable (v : Nat)
@[simp] theorem State.setTph_params : (s.setTph v).params = s.params := rfl
@[simp] theorem State.setTph_pw : (s.setTph v).pw = s.pw := rfl
@[simp] theorem State.setTph_ft : (s.setTph v).ft = s.ft := rfl
@[simp] theorem State.setTph_tickEn : (s.setTph v).tickEn = s.tickEn := rfl
@[simp] theorem State.setTph_tpend : (s.setTph v).tpend = s.tpend := rfl
@[simp] theorem State.setTph_tovr : (s.setTph v).tovr = s.tovr := rfl
@[simp] theorem State.setTph_gapv : (s.setTph v).gapv = s.gapv := rfl
@[simp] theorem State.setTph_ill : (s.setTph v).ill = s.ill := rfl
@[simp] theorem State.setTph_sec : (s.setTph v).sec = s.sec := rfl
@[simp] theorem State.setTph_tph : (s.setTph v).tph = v := rfl
@[simp] theorem State.setTph_busy : (s.setTph v).busy = s.busy := rfl
@[simp] theorem State.setTph_encN : (s.setTph v).encN = s.encN := rfl
@[simp] theorem State.setTph_encFrame : (s.setTph v).encFrame = s.encFrame := rfl
@[simp] theorem State.setTph_lowrun : (s.setTph v).lowrun = s.lowrun := rfl
@[simp] theorem State.setTph_frm : (s.setTph v).frm = s.frm := rfl
@[simp] theorem State.setTph_ledDout : (s.setTph v).ledDout = s.ledDout := rfl
@[simp] theorem State.setTph_servoOut : (s.setTph v).servoOut = s.servoOut := rfl
@[simp] theorem State.setTph_inputs : (s.setTph v).inputs = s.inputs := rfl
@[simp] theorem State.setTph_rsp : (s.setTph v).rsp = s.rsp := rfl
end

section
variable (v : Bool)
@[simp] theorem State.setBusy_params : (s.setBusy v).params = s.params := rfl
@[simp] theorem State.setBusy_pw : (s.setBusy v).pw = s.pw := rfl
@[simp] theorem State.setBusy_ft : (s.setBusy v).ft = s.ft := rfl
@[simp] theorem State.setBusy_tickEn : (s.setBusy v).tickEn = s.tickEn := rfl
@[simp] theorem State.setBusy_tpend : (s.setBusy v).tpend = s.tpend := rfl
@[simp] theorem State.setBusy_tovr : (s.setBusy v).tovr = s.tovr := rfl
@[simp] theorem State.setBusy_gapv : (s.setBusy v).gapv = s.gapv := rfl
@[simp] theorem State.setBusy_ill : (s.setBusy v).ill = s.ill := rfl
@[simp] theorem State.setBusy_sec : (s.setBusy v).sec = s.sec := rfl
@[simp] theorem State.setBusy_tph : (s.setBusy v).tph = s.tph := rfl
@[simp] theorem State.setBusy_busy : (s.setBusy v).busy = v := rfl
@[simp] theorem State.setBusy_encN : (s.setBusy v).encN = s.encN := rfl
@[simp] theorem State.setBusy_encFrame : (s.setBusy v).encFrame = s.encFrame := rfl
@[simp] theorem State.setBusy_lowrun : (s.setBusy v).lowrun = s.lowrun := rfl
@[simp] theorem State.setBusy_frm : (s.setBusy v).frm = s.frm := rfl
@[simp] theorem State.setBusy_ledDout : (s.setBusy v).ledDout = s.ledDout := rfl
@[simp] theorem State.setBusy_servoOut : (s.setBusy v).servoOut = s.servoOut := rfl
@[simp] theorem State.setBusy_inputs : (s.setBusy v).inputs = s.inputs := rfl
@[simp] theorem State.setBusy_rsp : (s.setBusy v).rsp = s.rsp := rfl
end

section
variable (v : Nat)
@[simp] theorem State.setEncN_params : (s.setEncN v).params = s.params := rfl
@[simp] theorem State.setEncN_pw : (s.setEncN v).pw = s.pw := rfl
@[simp] theorem State.setEncN_ft : (s.setEncN v).ft = s.ft := rfl
@[simp] theorem State.setEncN_tickEn : (s.setEncN v).tickEn = s.tickEn := rfl
@[simp] theorem State.setEncN_tpend : (s.setEncN v).tpend = s.tpend := rfl
@[simp] theorem State.setEncN_tovr : (s.setEncN v).tovr = s.tovr := rfl
@[simp] theorem State.setEncN_gapv : (s.setEncN v).gapv = s.gapv := rfl
@[simp] theorem State.setEncN_ill : (s.setEncN v).ill = s.ill := rfl
@[simp] theorem State.setEncN_sec : (s.setEncN v).sec = s.sec := rfl
@[simp] theorem State.setEncN_tph : (s.setEncN v).tph = s.tph := rfl
@[simp] theorem State.setEncN_busy : (s.setEncN v).busy = s.busy := rfl
@[simp] theorem State.setEncN_encN : (s.setEncN v).encN = v := rfl
@[simp] theorem State.setEncN_encFrame : (s.setEncN v).encFrame = s.encFrame := rfl
@[simp] theorem State.setEncN_lowrun : (s.setEncN v).lowrun = s.lowrun := rfl
@[simp] theorem State.setEncN_frm : (s.setEncN v).frm = s.frm := rfl
@[simp] theorem State.setEncN_ledDout : (s.setEncN v).ledDout = s.ledDout := rfl
@[simp] theorem State.setEncN_servoOut : (s.setEncN v).servoOut = s.servoOut := rfl
@[simp] theorem State.setEncN_inputs : (s.setEncN v).inputs = s.inputs := rfl
@[simp] theorem State.setEncN_rsp : (s.setEncN v).rsp = s.rsp := rfl
end

section
variable (v : Frame)
@[simp] theorem State.setEncFrame_params : (s.setEncFrame v).params = s.params := rfl
@[simp] theorem State.setEncFrame_pw : (s.setEncFrame v).pw = s.pw := rfl
@[simp] theorem State.setEncFrame_ft : (s.setEncFrame v).ft = s.ft := rfl
@[simp] theorem State.setEncFrame_tickEn : (s.setEncFrame v).tickEn = s.tickEn := rfl
@[simp] theorem State.setEncFrame_tpend : (s.setEncFrame v).tpend = s.tpend := rfl
@[simp] theorem State.setEncFrame_tovr : (s.setEncFrame v).tovr = s.tovr := rfl
@[simp] theorem State.setEncFrame_gapv : (s.setEncFrame v).gapv = s.gapv := rfl
@[simp] theorem State.setEncFrame_ill : (s.setEncFrame v).ill = s.ill := rfl
@[simp] theorem State.setEncFrame_sec : (s.setEncFrame v).sec = s.sec := rfl
@[simp] theorem State.setEncFrame_tph : (s.setEncFrame v).tph = s.tph := rfl
@[simp] theorem State.setEncFrame_busy : (s.setEncFrame v).busy = s.busy := rfl
@[simp] theorem State.setEncFrame_encN : (s.setEncFrame v).encN = s.encN := rfl
@[simp] theorem State.setEncFrame_encFrame : (s.setEncFrame v).encFrame = v := rfl
@[simp] theorem State.setEncFrame_lowrun : (s.setEncFrame v).lowrun = s.lowrun := rfl
@[simp] theorem State.setEncFrame_frm : (s.setEncFrame v).frm = s.frm := rfl
@[simp] theorem State.setEncFrame_ledDout : (s.setEncFrame v).ledDout = s.ledDout := rfl
@[simp] theorem State.setEncFrame_servoOut : (s.setEncFrame v).servoOut = s.servoOut := rfl
@[simp] theorem State.setEncFrame_inputs : (s.setEncFrame v).inputs = s.inputs := rfl
@[simp] theorem State.setEncFrame_rsp : (s.setEncFrame v).rsp = s.rsp := rfl
end

section
variable (v : Nat)
@[simp] theorem State.setLowrun_params : (s.setLowrun v).params = s.params := rfl
@[simp] theorem State.setLowrun_pw : (s.setLowrun v).pw = s.pw := rfl
@[simp] theorem State.setLowrun_ft : (s.setLowrun v).ft = s.ft := rfl
@[simp] theorem State.setLowrun_tickEn : (s.setLowrun v).tickEn = s.tickEn := rfl
@[simp] theorem State.setLowrun_tpend : (s.setLowrun v).tpend = s.tpend := rfl
@[simp] theorem State.setLowrun_tovr : (s.setLowrun v).tovr = s.tovr := rfl
@[simp] theorem State.setLowrun_gapv : (s.setLowrun v).gapv = s.gapv := rfl
@[simp] theorem State.setLowrun_ill : (s.setLowrun v).ill = s.ill := rfl
@[simp] theorem State.setLowrun_sec : (s.setLowrun v).sec = s.sec := rfl
@[simp] theorem State.setLowrun_tph : (s.setLowrun v).tph = s.tph := rfl
@[simp] theorem State.setLowrun_busy : (s.setLowrun v).busy = s.busy := rfl
@[simp] theorem State.setLowrun_encN : (s.setLowrun v).encN = s.encN := rfl
@[simp] theorem State.setLowrun_encFrame : (s.setLowrun v).encFrame = s.encFrame := rfl
@[simp] theorem State.setLowrun_lowrun : (s.setLowrun v).lowrun = v := rfl
@[simp] theorem State.setLowrun_frm : (s.setLowrun v).frm = s.frm := rfl
@[simp] theorem State.setLowrun_ledDout : (s.setLowrun v).ledDout = s.ledDout := rfl
@[simp] theorem State.setLowrun_servoOut : (s.setLowrun v).servoOut = s.servoOut := rfl
@[simp] theorem State.setLowrun_inputs : (s.setLowrun v).inputs = s.inputs := rfl
@[simp] theorem State.setLowrun_rsp : (s.setLowrun v).rsp = s.rsp := rfl
end

section
variable (v : Nat)
@[simp] theorem State.setFrm_params : (s.setFrm v).params = s.params := rfl
@[simp] theorem State.setFrm_pw : (s.setFrm v).pw = s.pw := rfl
@[simp] theorem State.setFrm_ft : (s.setFrm v).ft = s.ft := rfl
@[simp] theorem State.setFrm_tickEn : (s.setFrm v).tickEn = s.tickEn := rfl
@[simp] theorem State.setFrm_tpend : (s.setFrm v).tpend = s.tpend := rfl
@[simp] theorem State.setFrm_tovr : (s.setFrm v).tovr = s.tovr := rfl
@[simp] theorem State.setFrm_gapv : (s.setFrm v).gapv = s.gapv := rfl
@[simp] theorem State.setFrm_ill : (s.setFrm v).ill = s.ill := rfl
@[simp] theorem State.setFrm_sec : (s.setFrm v).sec = s.sec := rfl
@[simp] theorem State.setFrm_tph : (s.setFrm v).tph = s.tph := rfl
@[simp] theorem State.setFrm_busy : (s.setFrm v).busy = s.busy := rfl
@[simp] theorem State.setFrm_encN : (s.setFrm v).encN = s.encN := rfl
@[simp] theorem State.setFrm_encFrame : (s.setFrm v).encFrame = s.encFrame := rfl
@[simp] theorem State.setFrm_lowrun : (s.setFrm v).lowrun = s.lowrun := rfl
@[simp] theorem State.setFrm_frm : (s.setFrm v).frm = v := rfl
@[simp] theorem State.setFrm_ledDout : (s.setFrm v).ledDout = s.ledDout := rfl
@[simp] theorem State.setFrm_servoOut : (s.setFrm v).servoOut = s.servoOut := rfl
@[simp] theorem State.setFrm_inputs : (s.setFrm v).inputs = s.inputs := rfl
@[simp] theorem State.setFrm_rsp : (s.setFrm v).rsp = s.rsp := rfl
end

section
variable (v : Bool)
@[simp] theorem State.setLedDout_params : (s.setLedDout v).params = s.params := rfl
@[simp] theorem State.setLedDout_pw : (s.setLedDout v).pw = s.pw := rfl
@[simp] theorem State.setLedDout_ft : (s.setLedDout v).ft = s.ft := rfl
@[simp] theorem State.setLedDout_tickEn : (s.setLedDout v).tickEn = s.tickEn := rfl
@[simp] theorem State.setLedDout_tpend : (s.setLedDout v).tpend = s.tpend := rfl
@[simp] theorem State.setLedDout_tovr : (s.setLedDout v).tovr = s.tovr := rfl
@[simp] theorem State.setLedDout_gapv : (s.setLedDout v).gapv = s.gapv := rfl
@[simp] theorem State.setLedDout_ill : (s.setLedDout v).ill = s.ill := rfl
@[simp] theorem State.setLedDout_sec : (s.setLedDout v).sec = s.sec := rfl
@[simp] theorem State.setLedDout_tph : (s.setLedDout v).tph = s.tph := rfl
@[simp] theorem State.setLedDout_busy : (s.setLedDout v).busy = s.busy := rfl
@[simp] theorem State.setLedDout_encN : (s.setLedDout v).encN = s.encN := rfl
@[simp] theorem State.setLedDout_encFrame : (s.setLedDout v).encFrame = s.encFrame := rfl
@[simp] theorem State.setLedDout_lowrun : (s.setLedDout v).lowrun = s.lowrun := rfl
@[simp] theorem State.setLedDout_frm : (s.setLedDout v).frm = s.frm := rfl
@[simp] theorem State.setLedDout_ledDout : (s.setLedDout v).ledDout = v := rfl
@[simp] theorem State.setLedDout_servoOut : (s.setLedDout v).servoOut = s.servoOut := rfl
@[simp] theorem State.setLedDout_inputs : (s.setLedDout v).inputs = s.inputs := rfl
@[simp] theorem State.setLedDout_rsp : (s.setLedDout v).rsp = s.rsp := rfl
end

section
variable (v : Bool)
@[simp] theorem State.setServoOut_params : (s.setServoOut v).params = s.params := rfl
@[simp] theorem State.setServoOut_pw : (s.setServoOut v).pw = s.pw := rfl
@[simp] theorem State.setServoOut_ft : (s.setServoOut v).ft = s.ft := rfl
@[simp] theorem State.setServoOut_tickEn : (s.setServoOut v).tickEn = s.tickEn := rfl
@[simp] theorem State.setServoOut_tpend : (s.setServoOut v).tpend = s.tpend := rfl
@[simp] theorem State.setServoOut_tovr : (s.setServoOut v).tovr = s.tovr := rfl
@[simp] theorem State.setServoOut_gapv : (s.setServoOut v).gapv = s.gapv := rfl
@[simp] theorem State.setServoOut_ill : (s.setServoOut v).ill = s.ill := rfl
@[simp] theorem State.setServoOut_sec : (s.setServoOut v).sec = s.sec := rfl
@[simp] theorem State.setServoOut_tph : (s.setServoOut v).tph = s.tph := rfl
@[simp] theorem State.setServoOut_busy : (s.setServoOut v).busy = s.busy := rfl
@[simp] theorem State.setServoOut_encN : (s.setServoOut v).encN = s.encN := rfl
@[simp] theorem State.setServoOut_encFrame : (s.setServoOut v).encFrame = s.encFrame := rfl
@[simp] theorem State.setServoOut_lowrun : (s.setServoOut v).lowrun = s.lowrun := rfl
@[simp] theorem State.setServoOut_frm : (s.setServoOut v).frm = s.frm := rfl
@[simp] theorem State.setServoOut_ledDout : (s.setServoOut v).ledDout = s.ledDout := rfl
@[simp] theorem State.setServoOut_servoOut : (s.setServoOut v).servoOut = v := rfl
@[simp] theorem State.setServoOut_inputs : (s.setServoOut v).inputs = s.inputs := rfl
@[simp] theorem State.setServoOut_rsp : (s.setServoOut v).rsp = s.rsp := rfl
end

section
variable (v : List PortInput)
@[simp] theorem State.setInputs_params : (s.setInputs v).params = s.params := rfl
@[simp] theorem State.setInputs_pw : (s.setInputs v).pw = s.pw := rfl
@[simp] theorem State.setInputs_ft : (s.setInputs v).ft = s.ft := rfl
@[simp] theorem State.setInputs_tickEn : (s.setInputs v).tickEn = s.tickEn := rfl
@[simp] theorem State.setInputs_tpend : (s.setInputs v).tpend = s.tpend := rfl
@[simp] theorem State.setInputs_tovr : (s.setInputs v).tovr = s.tovr := rfl
@[simp] theorem State.setInputs_gapv : (s.setInputs v).gapv = s.gapv := rfl
@[simp] theorem State.setInputs_ill : (s.setInputs v).ill = s.ill := rfl
@[simp] theorem State.setInputs_sec : (s.setInputs v).sec = s.sec := rfl
@[simp] theorem State.setInputs_tph : (s.setInputs v).tph = s.tph := rfl
@[simp] theorem State.setInputs_busy : (s.setInputs v).busy = s.busy := rfl
@[simp] theorem State.setInputs_encN : (s.setInputs v).encN = s.encN := rfl
@[simp] theorem State.setInputs_encFrame : (s.setInputs v).encFrame = s.encFrame := rfl
@[simp] theorem State.setInputs_lowrun : (s.setInputs v).lowrun = s.lowrun := rfl
@[simp] theorem State.setInputs_frm : (s.setInputs v).frm = s.frm := rfl
@[simp] theorem State.setInputs_ledDout : (s.setInputs v).ledDout = s.ledDout := rfl
@[simp] theorem State.setInputs_servoOut : (s.setInputs v).servoOut = s.servoOut := rfl
@[simp] theorem State.setInputs_inputs : (s.setInputs v).inputs = v := rfl
@[simp] theorem State.setInputs_rsp : (s.setInputs v).rsp = s.rsp := rfl
end

section
variable (w : Word)
@[simp] theorem State.respond_params : (s.respond w).params = s.params := rfl
@[simp] theorem State.respond_pw : (s.respond w).pw = s.pw := rfl
@[simp] theorem State.respond_ft : (s.respond w).ft = s.ft := rfl
@[simp] theorem State.respond_tickEn : (s.respond w).tickEn = s.tickEn := rfl
@[simp] theorem State.respond_tpend : (s.respond w).tpend = s.tpend := rfl
@[simp] theorem State.respond_tovr : (s.respond w).tovr = s.tovr := rfl
@[simp] theorem State.respond_gapv : (s.respond w).gapv = s.gapv := rfl
@[simp] theorem State.respond_ill : (s.respond w).ill = s.ill := rfl
@[simp] theorem State.respond_sec : (s.respond w).sec = s.sec := rfl
@[simp] theorem State.respond_tph : (s.respond w).tph = s.tph := rfl
@[simp] theorem State.respond_busy : (s.respond w).busy = s.busy := rfl
@[simp] theorem State.respond_encN : (s.respond w).encN = s.encN := rfl
@[simp] theorem State.respond_encFrame : (s.respond w).encFrame = s.encFrame := rfl
@[simp] theorem State.respond_lowrun : (s.respond w).lowrun = s.lowrun := rfl
@[simp] theorem State.respond_frm : (s.respond w).frm = s.frm := rfl
@[simp] theorem State.respond_ledDout : (s.respond w).ledDout = s.ledDout := rfl
@[simp] theorem State.respond_servoOut : (s.respond w).servoOut = s.servoOut := rfl
@[simp] theorem State.respond_inputs : (s.respond w).inputs = s.inputs := rfl
@[simp] theorem State.respond_rsp : (s.respond w).rsp = some w := rfl
end

section
variable (c : Cause)
@[simp] theorem State.raise_params : (s.raise c).params = s.params := rfl
@[simp] theorem State.raise_pw : (s.raise c).pw = s.pw := rfl
@[simp] theorem State.raise_ft : (s.raise c).ft = s.ft := rfl
@[simp] theorem State.raise_tickEn : (s.raise c).tickEn = s.tickEn := rfl
@[simp] theorem State.raise_tpend : (s.raise c).tpend = s.tpend := rfl
@[simp] theorem State.raise_tovr : (s.raise c).tovr = (s.tovr || decide (c = .tovr)) := rfl
@[simp] theorem State.raise_gapv : (s.raise c).gapv = (s.gapv || decide (c = .gapv)) := rfl
@[simp] theorem State.raise_ill : (s.raise c).ill = (s.ill || decide (c = .ill)) := rfl
@[simp] theorem State.raise_sec : (s.raise c).sec = s.sec := rfl
@[simp] theorem State.raise_tph : (s.raise c).tph = s.tph := rfl
@[simp] theorem State.raise_busy : (s.raise c).busy = s.busy := rfl
@[simp] theorem State.raise_encN : (s.raise c).encN = s.encN := rfl
@[simp] theorem State.raise_encFrame : (s.raise c).encFrame = s.encFrame := rfl
@[simp] theorem State.raise_lowrun : (s.raise c).lowrun = s.lowrun := rfl
@[simp] theorem State.raise_frm : (s.raise c).frm = s.frm := rfl
@[simp] theorem State.raise_ledDout : (s.raise c).ledDout = s.ledDout := rfl
@[simp] theorem State.raise_servoOut : (s.raise c).servoOut = s.servoOut := rfl
@[simp] theorem State.raise_inputs : (s.raise c).inputs = s.inputs := rfl
@[simp] theorem State.raise_rsp : (s.raise c).rsp = s.rsp := rfl
end

section
@[simp] theorem State.takePort_params : s.takePort.params = s.params := rfl
@[simp] theorem State.takePort_pw : s.takePort.pw = s.pw := rfl
@[simp] theorem State.takePort_ft : s.takePort.ft = s.ft := rfl
@[simp] theorem State.takePort_tickEn : s.takePort.tickEn = s.tickEn := rfl
@[simp] theorem State.takePort_tpend : s.takePort.tpend = s.tpend := rfl
@[simp] theorem State.takePort_tovr : s.takePort.tovr = s.tovr := rfl
@[simp] theorem State.takePort_gapv : s.takePort.gapv = s.gapv := rfl
@[simp] theorem State.takePort_ill : s.takePort.ill = s.ill := rfl
@[simp] theorem State.takePort_sec : s.takePort.sec = s.sec := rfl
@[simp] theorem State.takePort_tph : s.takePort.tph = s.tph := rfl
@[simp] theorem State.takePort_busy : s.takePort.busy = s.busy := rfl
@[simp] theorem State.takePort_encN : s.takePort.encN = s.encN := rfl
@[simp] theorem State.takePort_encFrame : s.takePort.encFrame = s.encFrame := rfl
@[simp] theorem State.takePort_lowrun : s.takePort.lowrun = s.lowrun := rfl
@[simp] theorem State.takePort_frm : s.takePort.frm = s.frm := rfl
@[simp] theorem State.takePort_ledDout : s.takePort.ledDout = s.ledDout := rfl
@[simp] theorem State.takePort_servoOut : s.takePort.servoOut = s.servoOut := rfl
@[simp] theorem State.takePort_inputs : s.takePort.inputs = s.inputs.tail := rfl
@[simp] theorem State.takePort_rsp : s.takePort.rsp = none := rfl
end

section
@[simp] theorem State.applyReset_params : s.applyReset.params = s.params := rfl
@[simp] theorem State.applyReset_pw : s.applyReset.pw = 0#16 := rfl
@[simp] theorem State.applyReset_ft : s.applyReset.ft = 0#16 := rfl
@[simp] theorem State.applyReset_tickEn : s.applyReset.tickEn = false := rfl
@[simp] theorem State.applyReset_tpend : s.applyReset.tpend = false := rfl
@[simp] theorem State.applyReset_tovr : s.applyReset.tovr = false := rfl
@[simp] theorem State.applyReset_gapv : s.applyReset.gapv = false := rfl
@[simp] theorem State.applyReset_ill : s.applyReset.ill = false := rfl
@[simp] theorem State.applyReset_sec : s.applyReset.sec = 0#16 := rfl
@[simp] theorem State.applyReset_tph : s.applyReset.tph = 0 := rfl
@[simp] theorem State.applyReset_busy : s.applyReset.busy = false := rfl
@[simp] theorem State.applyReset_encN : s.applyReset.encN = 0 := rfl
@[simp] theorem State.applyReset_encFrame : s.applyReset.encFrame = 0#24 := rfl
@[simp] theorem State.applyReset_lowrun : s.applyReset.lowrun = s.params.tResetCyc := rfl
@[simp] theorem State.applyReset_frm : s.applyReset.frm = 0 := rfl
@[simp] theorem State.applyReset_ledDout : s.applyReset.ledDout = false := rfl
@[simp] theorem State.applyReset_servoOut : s.applyReset.servoOut = false := rfl
@[simp] theorem State.applyReset_inputs : s.applyReset.inputs = s.inputs := rfl
@[simp] theorem State.applyReset_rsp : s.applyReset.rsp = none := rfl
end

end Sys2Proof.Machine
end

