-- ==== Sys2Proof/Laws/Encoder.lean ====
section
/-! SUPPORT. What the encoder's operations do, said once: the level function in its range, the three ways phase 5 can go,
and the fields each operation leaves alone. -/

namespace Sys2Proof.Machine

open Config

variable (s : State)

/-- The level inside the frame (R107). -/
theorem level_of_lt {p : Params} {f : Frame} {n : Nat} (h : n < p.frameCycles) :
    level p f n = decide (n % p.tBitCyc < highTime p (frameBit f (n / p.tBitCyc))) := by
  simp [level, h]

/-- A bit is high for at least one cycle. -/
theorem highTime_pos (p : Params) (b : Bool) : 0 < highTime p b := by
  have := p.constraints
  cases b <;> simp [highTime] <;> omega

/-- A bit ends low. -/
theorem highTime_lt_tBit (p : Params) (b : Bool) : highTime p b < p.tBitCyc := by
  have := p.constraints
  cases b <;> simp [highTime] <;> omega

/-- The first level of a frame is high, since T0H_CYC >= 1 (R100). -/
@[simp] theorem level_zero (p : Params) (f : Frame) : level p f 0 = true := by
  rw [level_of_lt p.frameCycles_pos]
  simp [highTime_pos]

/-! The frame end -/

@[simp] theorem endFrame_busy : (endFrame s).busy = false := rfl
@[simp] theorem endFrame_ledDout : (endFrame s).ledDout = false := rfl
@[simp] theorem endFrame_lowrun : (endFrame s).lowrun = 1 := rfl
@[simp] theorem endFrame_params : (endFrame s).params = s.params := rfl
@[simp] theorem endFrame_pw : (endFrame s).pw = s.pw := rfl
@[simp] theorem endFrame_ft : (endFrame s).ft = s.ft := rfl
@[simp] theorem endFrame_tickEn : (endFrame s).tickEn = s.tickEn := rfl
@[simp] theorem endFrame_tpend : (endFrame s).tpend = s.tpend := rfl
@[simp] theorem endFrame_tovr : (endFrame s).tovr = s.tovr := rfl
@[simp] theorem endFrame_gapv : (endFrame s).gapv = s.gapv := rfl
@[simp] theorem endFrame_ill : (endFrame s).ill = s.ill := rfl
@[simp] theorem endFrame_sec : (endFrame s).sec = s.sec := rfl
@[simp] theorem endFrame_tph : (endFrame s).tph = s.tph := rfl
@[simp] theorem endFrame_encN : (endFrame s).encN = s.encN := rfl
@[simp] theorem endFrame_encFrame : (endFrame s).encFrame = s.encFrame := rfl
@[simp] theorem endFrame_frm : (endFrame s).frm = s.frm := rfl
@[simp] theorem endFrame_servoOut : (endFrame s).servoOut = s.servoOut := rfl
@[simp] theorem endFrame_inputs : (endFrame s).inputs = s.inputs := rfl
@[simp] theorem endFrame_rsp : (endFrame s).rsp = s.rsp := rfl

/-! The next cycle of a running frame -/

@[simp] theorem advanceFrame_encN : (advanceFrame s).encN = s.encN + 1 := rfl
@[simp] theorem advanceFrame_ledDout : (advanceFrame s).ledDout = level s.params s.encFrame (s.encN + 1) := rfl
@[simp] theorem advanceFrame_params : (advanceFrame s).params = s.params := rfl
@[simp] theorem advanceFrame_pw : (advanceFrame s).pw = s.pw := rfl
@[simp] theorem advanceFrame_ft : (advanceFrame s).ft = s.ft := rfl
@[simp] theorem advanceFrame_tickEn : (advanceFrame s).tickEn = s.tickEn := rfl
@[simp] theorem advanceFrame_tpend : (advanceFrame s).tpend = s.tpend := rfl
@[simp] theorem advanceFrame_tovr : (advanceFrame s).tovr = s.tovr := rfl
@[simp] theorem advanceFrame_gapv : (advanceFrame s).gapv = s.gapv := rfl
@[simp] theorem advanceFrame_ill : (advanceFrame s).ill = s.ill := rfl
@[simp] theorem advanceFrame_sec : (advanceFrame s).sec = s.sec := rfl
@[simp] theorem advanceFrame_tph : (advanceFrame s).tph = s.tph := rfl
@[simp] theorem advanceFrame_busy : (advanceFrame s).busy = s.busy := rfl
@[simp] theorem advanceFrame_encFrame : (advanceFrame s).encFrame = s.encFrame := rfl
@[simp] theorem advanceFrame_lowrun : (advanceFrame s).lowrun = s.lowrun := rfl
@[simp] theorem advanceFrame_frm : (advanceFrame s).frm = s.frm := rfl
@[simp] theorem advanceFrame_servoOut : (advanceFrame s).servoOut = s.servoOut := rfl
@[simp] theorem advanceFrame_inputs : (advanceFrame s).inputs = s.inputs := rfl
@[simp] theorem advanceFrame_rsp : (advanceFrame s).rsp = s.rsp := rfl

/-! One more low cycle -/

@[simp] theorem countLow_lowrun : (countLow s).lowrun = min (s.lowrun + 1) s.params.tResetCyc := rfl
@[simp] theorem countLow_params : (countLow s).params = s.params := rfl
@[simp] theorem countLow_pw : (countLow s).pw = s.pw := rfl
@[simp] theorem countLow_ft : (countLow s).ft = s.ft := rfl
@[simp] theorem countLow_tickEn : (countLow s).tickEn = s.tickEn := rfl
@[simp] theorem countLow_tpend : (countLow s).tpend = s.tpend := rfl
@[simp] theorem countLow_tovr : (countLow s).tovr = s.tovr := rfl
@[simp] theorem countLow_gapv : (countLow s).gapv = s.gapv := rfl
@[simp] theorem countLow_ill : (countLow s).ill = s.ill := rfl
@[simp] theorem countLow_sec : (countLow s).sec = s.sec := rfl
@[simp] theorem countLow_tph : (countLow s).tph = s.tph := rfl
@[simp] theorem countLow_busy : (countLow s).busy = s.busy := rfl
@[simp] theorem countLow_encN : (countLow s).encN = s.encN := rfl
@[simp] theorem countLow_encFrame : (countLow s).encFrame = s.encFrame := rfl
@[simp] theorem countLow_frm : (countLow s).frm = s.frm := rfl
@[simp] theorem countLow_ledDout : (countLow s).ledDout = s.ledDout := rfl
@[simp] theorem countLow_servoOut : (countLow s).servoOut = s.servoOut := rfl
@[simp] theorem countLow_inputs : (countLow s).inputs = s.inputs := rfl
@[simp] theorem countLow_rsp : (countLow s).rsp = s.rsp := rfl

/-- All that phase 5 can do (R108). -/
theorem phase5Encoder_cases (b : Bool) :
    (b = true ∧ phase5Encoder b s = s) ∨
    (b = false ∧ s.busy = true ∧ s.encN + 1 = s.params.frameCycles ∧ phase5Encoder b s = endFrame s) ∨
    (b = false ∧ s.busy = true ∧ s.encN + 1 ≠ s.params.frameCycles ∧ phase5Encoder b s = advanceFrame s) ∨
    (b = false ∧ s.busy = false ∧ phase5Encoder b s = countLow s) := by
  cases b <;> cases hb : s.busy <;> by_cases hn : s.encN + 1 = s.params.frameCycles <;>
    simp [phase5Encoder, hb, hn]

@[simp] theorem phase5Encoder_started : phase5Encoder true s = s := rfl

/-! What phase 5 never writes -/

@[simp] theorem phase5Encoder_params (b : Bool) : (phase5Encoder b s).params = s.params := by
  rcases phase5Encoder_cases s b with ⟨-, h⟩ | ⟨-, -, -, h⟩ | ⟨-, -, -, h⟩ | ⟨-, -, h⟩ <;> rw [h] <;> rfl
@[simp] theorem phase5Encoder_pw (b : Bool) : (phase5Encoder b s).pw = s.pw := by
  rcases phase5Encoder_cases s b with ⟨-, h⟩ | ⟨-, -, -, h⟩ | ⟨-, -, -, h⟩ | ⟨-, -, h⟩ <;> rw [h] <;> rfl
@[simp] theorem phase5Encoder_ft (b : Bool) : (phase5Encoder b s).ft = s.ft := by
  rcases phase5Encoder_cases s b with ⟨-, h⟩ | ⟨-, -, -, h⟩ | ⟨-, -, -, h⟩ | ⟨-, -, h⟩ <;> rw [h] <;> rfl
@[simp] theorem phase5Encoder_tickEn (b : Bool) : (phase5Encoder b s).tickEn = s.tickEn := by
  rcases phase5Encoder_cases s b with ⟨-, h⟩ | ⟨-, -, -, h⟩ | ⟨-, -, -, h⟩ | ⟨-, -, h⟩ <;> rw [h] <;> rfl
@[simp] theorem phase5Encoder_tpend (b : Bool) : (phase5Encoder b s).tpend = s.tpend := by
  rcases phase5Encoder_cases s b with ⟨-, h⟩ | ⟨-, -, -, h⟩ | ⟨-, -, -, h⟩ | ⟨-, -, h⟩ <;> rw [h] <;> rfl
@[simp] theorem phase5Encoder_tovr (b : Bool) : (phase5Encoder b s).tovr = s.tovr := by
  rcases phase5Encoder_cases s b with ⟨-, h⟩ | ⟨-, -, -, h⟩ | ⟨-, -, -, h⟩ | ⟨-, -, h⟩ <;> rw [h] <;> rfl
@[simp] theorem phase5Encoder_gapv (b : Bool) : (phase5Encoder b s).gapv = s.gapv := by
  rcases phase5Encoder_cases s b with ⟨-, h⟩ | ⟨-, -, -, h⟩ | ⟨-, -, -, h⟩ | ⟨-, -, h⟩ <;> rw [h] <;> rfl
@[simp] theorem phase5Encoder_ill (b : Bool) : (phase5Encoder b s).ill = s.ill := by
  rcases phase5Encoder_cases s b with ⟨-, h⟩ | ⟨-, -, -, h⟩ | ⟨-, -, -, h⟩ | ⟨-, -, h⟩ <;> rw [h] <;> rfl
@[simp] theorem phase5Encoder_sec (b : Bool) : (phase5Encoder b s).sec = s.sec := by
  rcases phase5Encoder_cases s b with ⟨-, h⟩ | ⟨-, -, -, h⟩ | ⟨-, -, -, h⟩ | ⟨-, -, h⟩ <;> rw [h] <;> rfl
@[simp] theorem phase5Encoder_tph (b : Bool) : (phase5Encoder b s).tph = s.tph := by
  rcases phase5Encoder_cases s b with ⟨-, h⟩ | ⟨-, -, -, h⟩ | ⟨-, -, -, h⟩ | ⟨-, -, h⟩ <;> rw [h] <;> rfl
@[simp] theorem phase5Encoder_encFrame (b : Bool) : (phase5Encoder b s).encFrame = s.encFrame := by
  rcases phase5Encoder_cases s b with ⟨-, h⟩ | ⟨-, -, -, h⟩ | ⟨-, -, -, h⟩ | ⟨-, -, h⟩ <;> rw [h] <;> rfl
@[simp] theorem phase5Encoder_frm (b : Bool) : (phase5Encoder b s).frm = s.frm := by
  rcases phase5Encoder_cases s b with ⟨-, h⟩ | ⟨-, -, -, h⟩ | ⟨-, -, -, h⟩ | ⟨-, -, h⟩ <;> rw [h] <;> rfl
@[simp] theorem phase5Encoder_servoOut (b : Bool) : (phase5Encoder b s).servoOut = s.servoOut := by
  rcases phase5Encoder_cases s b with ⟨-, h⟩ | ⟨-, -, -, h⟩ | ⟨-, -, -, h⟩ | ⟨-, -, h⟩ <;> rw [h] <;> rfl
@[simp] theorem phase5Encoder_inputs (b : Bool) : (phase5Encoder b s).inputs = s.inputs := by
  rcases phase5Encoder_cases s b with ⟨-, h⟩ | ⟨-, -, -, h⟩ | ⟨-, -, -, h⟩ | ⟨-, -, h⟩ <;> rw [h] <;> rfl
@[simp] theorem phase5Encoder_rsp (b : Bool) : (phase5Encoder b s).rsp = s.rsp := by
  rcases phase5Encoder_cases s b with ⟨-, h⟩ | ⟨-, -, -, h⟩ | ⟨-, -, -, h⟩ | ⟨-, -, h⟩ <;> rw [h] <;> rfl

end Sys2Proof.Machine
end

