-- ==== Sys2Proof/Laws/Servo.lean ====
section
/-! SUPPORT. What the tick source, the tick service and the pending flag do, said once, and the fields each leaves
alone. -/

namespace Sys2Proof.Machine

open Config

variable (s : State)

/-! Phase 1 -/

/-- Phase 1 yields the tick event. -/
@[simp] theorem phase1Source_event : (phase1Source s).1 = tickEvent s := by
  cases h : s.tickEn <;> by_cases ht : s.tph = s.params.tickCyc - 1 <;> simp [phase1Source, tickEvent, h, ht]

/-- TPH after phase 1 (R130). -/
theorem phase1Source_tph : (phase1Source s).2.tph =
    if s.tickEn then (if s.tph = s.params.tickCyc - 1 then 0 else s.tph + 1) else s.tph := by
  cases h : s.tickEn <;> by_cases ht : s.tph = s.params.tickCyc - 1 <;> simp [phase1Source, h, ht]

/-- Phase 1 writes TPH and nothing else. -/
theorem phase1Source_snd : (phase1Source s).2 = s.setTph (phase1Source s).2.tph := by
  unfold phase1Source
  split
  · rfl
  · split <;> rfl

/-! What phase 1 never writes -/

@[simp] theorem phase1Source_params : (phase1Source s).2.params = s.params := by
  rw [phase1Source_snd]; rfl
@[simp] theorem phase1Source_pw : (phase1Source s).2.pw = s.pw := by
  rw [phase1Source_snd]; rfl
@[simp] theorem phase1Source_ft : (phase1Source s).2.ft = s.ft := by
  rw [phase1Source_snd]; rfl
@[simp] theorem phase1Source_tickEn : (phase1Source s).2.tickEn = s.tickEn := by
  rw [phase1Source_snd]; rfl
@[simp] theorem phase1Source_tpend : (phase1Source s).2.tpend = s.tpend := by
  rw [phase1Source_snd]; rfl
@[simp] theorem phase1Source_tovr : (phase1Source s).2.tovr = s.tovr := by
  rw [phase1Source_snd]; rfl
@[simp] theorem phase1Source_gapv : (phase1Source s).2.gapv = s.gapv := by
  rw [phase1Source_snd]; rfl
@[simp] theorem phase1Source_ill : (phase1Source s).2.ill = s.ill := by
  rw [phase1Source_snd]; rfl
@[simp] theorem phase1Source_sec : (phase1Source s).2.sec = s.sec := by
  rw [phase1Source_snd]; rfl
@[simp] theorem phase1Source_busy : (phase1Source s).2.busy = s.busy := by
  rw [phase1Source_snd]; rfl
@[simp] theorem phase1Source_encN : (phase1Source s).2.encN = s.encN := by
  rw [phase1Source_snd]; rfl
@[simp] theorem phase1Source_encFrame : (phase1Source s).2.encFrame = s.encFrame := by
  rw [phase1Source_snd]; rfl
@[simp] theorem phase1Source_lowrun : (phase1Source s).2.lowrun = s.lowrun := by
  rw [phase1Source_snd]; rfl
@[simp] theorem phase1Source_frm : (phase1Source s).2.frm = s.frm := by
  rw [phase1Source_snd]; rfl
@[simp] theorem phase1Source_ledDout : (phase1Source s).2.ledDout = s.ledDout := by
  rw [phase1Source_snd]; rfl
@[simp] theorem phase1Source_servoOut : (phase1Source s).2.servoOut = s.servoOut := by
  rw [phase1Source_snd]; rfl
@[simp] theorem phase1Source_inputs : (phase1Source s).2.inputs = s.inputs := by
  rw [phase1Source_snd]; rfl
@[simp] theorem phase1Source_rsp : (phase1Source s).2.rsp = s.rsp := by
  rw [phase1Source_snd]; rfl

/-! FT arithmetic -/

/-- The next FrameTick as a number (R134). -/
theorem nextTick_toNat (p : Params) (ft : Half) (h : ft.toNat < p.frameLen) :
    (nextTick p ft).toNat = (ft.toNat + 1) % p.frameLen := by
  have hle := p.frameLen_le
  have ht : (ft.setWidth 17 + 1#17).toNat = ft.toNat + 1 := by
    have := ft.isLt
    simp only [BitVec.toNat_add, BitVec.toNat_setWidth, BitVec.toNat_ofNat]
    omega
  unfold nextTick
  by_cases he : ft.toNat + 1 = p.frameLen
  · simp [ht, he]
  · simp only [ht, he, if_false, BitVec.toNat_setWidth]
    rw [Nat.mod_eq_of_lt (by omega), Nat.mod_eq_of_lt (by omega)]

/-! The end of a servo frame -/

/-- FRM after a completed frame (R136). -/
@[simp] theorem frameComplete_frm :
    (frameComplete s).frm = if s.frm + 1 = s.params.framesPerSec then 0 else s.frm + 1 := by
  by_cases h : s.frm + 1 = s.params.framesPerSec <;> simp [frameComplete, h]

/-- SEC after a completed frame (R136). -/
@[simp] theorem frameComplete_sec :
    (frameComplete s).sec = if s.frm + 1 = s.params.framesPerSec then s.sec + 1#16 else s.sec := by
  by_cases h : s.frm + 1 = s.params.framesPerSec <;> simp [frameComplete, h]

@[simp] theorem frameComplete_params : (frameComplete s).params = s.params := by
  unfold frameComplete; split <;> rfl
@[simp] theorem frameComplete_pw : (frameComplete s).pw = s.pw := by
  unfold frameComplete; split <;> rfl
@[simp] theorem frameComplete_ft : (frameComplete s).ft = s.ft := by
  unfold frameComplete; split <;> rfl
@[simp] theorem frameComplete_tickEn : (frameComplete s).tickEn = s.tickEn := by
  unfold frameComplete; split <;> rfl
@[simp] theorem frameComplete_tpend : (frameComplete s).tpend = s.tpend := by
  unfold frameComplete; split <;> rfl
@[simp] theorem frameComplete_tovr : (frameComplete s).tovr = s.tovr := by
  unfold frameComplete; split <;> rfl
@[simp] theorem frameComplete_gapv : (frameComplete s).gapv = s.gapv := by
  unfold frameComplete; split <;> rfl
@[simp] theorem frameComplete_ill : (frameComplete s).ill = s.ill := by
  unfold frameComplete; split <;> rfl
@[simp] theorem frameComplete_tph : (frameComplete s).tph = s.tph := by
  unfold frameComplete; split <;> rfl
@[simp] theorem frameComplete_busy : (frameComplete s).busy = s.busy := by
  unfold frameComplete; split <;> rfl
@[simp] theorem frameComplete_encN : (frameComplete s).encN = s.encN := by
  unfold frameComplete; split <;> rfl
@[simp] theorem frameComplete_encFrame : (frameComplete s).encFrame = s.encFrame := by
  unfold frameComplete; split <;> rfl
@[simp] theorem frameComplete_lowrun : (frameComplete s).lowrun = s.lowrun := by
  unfold frameComplete; split <;> rfl
@[simp] theorem frameComplete_ledDout : (frameComplete s).ledDout = s.ledDout := by
  unfold frameComplete; split <;> rfl
@[simp] theorem frameComplete_servoOut : (frameComplete s).servoOut = s.servoOut := by
  unfold frameComplete; split <;> rfl
@[simp] theorem frameComplete_inputs : (frameComplete s).inputs = s.inputs := by
  unfold frameComplete; split <;> rfl
@[simp] theorem frameComplete_rsp : (frameComplete s).rsp = s.rsp := by
  unfold frameComplete; split <;> rfl

/-! The tick service -/

/-- FT after a service (R134). -/
@[simp] theorem tickService_ft : (tickService s).ft = nextTick s.params s.ft := by
  simp only [tickService]; split <;> simp

/-- SERVO_OUT after a service (R135). -/
@[simp] theorem tickService_servoOut : (tickService s).servoOut = (nextTick s.params s.ft).ule s.pw := by
  simp only [tickService]; split <;> simp

/-- FRM after a service (R136). -/
@[simp] theorem tickService_frm : (tickService s).frm =
    if nextTick s.params s.ft = 0#16 then (if s.frm + 1 = s.params.framesPerSec then 0 else s.frm + 1) else s.frm := by
  by_cases h : nextTick s.params s.ft = 0#16
  · simp [tickService, h]; rfl
  · simp [tickService, h]

/-- SEC after a service (R136). -/
@[simp] theorem tickService_sec : (tickService s).sec =
    if nextTick s.params s.ft = 0#16 then (if s.frm + 1 = s.params.framesPerSec then s.sec + 1#16 else s.sec)
    else s.sec := by
  by_cases h : nextTick s.params s.ft = 0#16
  · simp [tickService, h]; rfl
  · simp [tickService, h]

/-- A service clears the pending tick (R133). -/
@[simp] theorem tickService_tpend : (tickService s).tpend = false := by
  simp only [tickService]; split <;> simp

@[simp] theorem tickService_params : (tickService s).params = s.params := by
  simp only [tickService]; split <;> simp
@[simp] theorem tickService_pw : (tickService s).pw = s.pw := by
  simp only [tickService]; split <;> simp
@[simp] theorem tickService_tickEn : (tickService s).tickEn = s.tickEn := by
  simp only [tickService]; split <;> simp
@[simp] theorem tickService_tovr : (tickService s).tovr = s.tovr := by
  simp only [tickService]; split <;> simp
@[simp] theorem tickService_gapv : (tickService s).gapv = s.gapv := by
  simp only [tickService]; split <;> simp
@[simp] theorem tickService_ill : (tickService s).ill = s.ill := by
  simp only [tickService]; split <;> simp
@[simp] theorem tickService_tph : (tickService s).tph = s.tph := by
  simp only [tickService]; split <;> simp
@[simp] theorem tickService_busy : (tickService s).busy = s.busy := by
  simp only [tickService]; split <;> simp
@[simp] theorem tickService_encN : (tickService s).encN = s.encN := by
  simp only [tickService]; split <;> simp
@[simp] theorem tickService_encFrame : (tickService s).encFrame = s.encFrame := by
  simp only [tickService]; split <;> simp
@[simp] theorem tickService_lowrun : (tickService s).lowrun = s.lowrun := by
  simp only [tickService]; split <;> simp
@[simp] theorem tickService_ledDout : (tickService s).ledDout = s.ledDout := by
  simp only [tickService]; split <;> simp
@[simp] theorem tickService_inputs : (tickService s).inputs = s.inputs := by
  simp only [tickService]; split <;> simp
@[simp] theorem tickService_rsp : (tickService s).rsp = s.rsp := by
  simp only [tickService]; split <;> simp

/-! Phase 2 -/

/-- All that phase 2 can do (R132). -/
theorem phase2Service_eq : phase2Service s = if s.tpend && !s.busy then tickService s else s := by
  cases hp : s.tpend <;> cases hb : s.busy <;> simp [phase2Service, hp, hb]

/-- A tick is still pending after phase 2 exactly if a frame holds it back (R132). -/
@[simp] theorem phase2Service_tpend : (phase2Service s).tpend = (s.tpend && s.busy) := by
  cases hp : s.tpend <;> cases hb : s.busy <;> simp [phase2Service, hp, hb]

@[simp] theorem phase2Service_params : (phase2Service s).params = s.params := by
  rw [phase2Service_eq]; split <;> simp
@[simp] theorem phase2Service_pw : (phase2Service s).pw = s.pw := by
  rw [phase2Service_eq]; split <;> simp
@[simp] theorem phase2Service_tickEn : (phase2Service s).tickEn = s.tickEn := by
  rw [phase2Service_eq]; split <;> simp
@[simp] theorem phase2Service_tovr : (phase2Service s).tovr = s.tovr := by
  rw [phase2Service_eq]; split <;> simp
@[simp] theorem phase2Service_gapv : (phase2Service s).gapv = s.gapv := by
  rw [phase2Service_eq]; split <;> simp
@[simp] theorem phase2Service_ill : (phase2Service s).ill = s.ill := by
  rw [phase2Service_eq]; split <;> simp
@[simp] theorem phase2Service_tph : (phase2Service s).tph = s.tph := by
  rw [phase2Service_eq]; split <;> simp
@[simp] theorem phase2Service_busy : (phase2Service s).busy = s.busy := by
  rw [phase2Service_eq]; split <;> simp
@[simp] theorem phase2Service_encN : (phase2Service s).encN = s.encN := by
  rw [phase2Service_eq]; split <;> simp
@[simp] theorem phase2Service_encFrame : (phase2Service s).encFrame = s.encFrame := by
  rw [phase2Service_eq]; split <;> simp
@[simp] theorem phase2Service_lowrun : (phase2Service s).lowrun = s.lowrun := by
  rw [phase2Service_eq]; split <;> simp
@[simp] theorem phase2Service_ledDout : (phase2Service s).ledDout = s.ledDout := by
  rw [phase2Service_eq]; split <;> simp
@[simp] theorem phase2Service_inputs : (phase2Service s).inputs = s.inputs := by
  rw [phase2Service_eq]; split <;> simp
@[simp] theorem phase2Service_rsp : (phase2Service s).rsp = s.rsp := by
  rw [phase2Service_eq]; split <;> simp

/-! Phase 3 -/

/-- TPEND after phase 3 (R131). -/
@[simp] theorem phase3Pend_tpend (ev : Bool) : (phase3Pend ev s).tpend = (s.tpend || ev) := by
  cases ev <;> cases h : s.tpend <;> simp [phase3Pend, tickLost, h]

/-- TOVR after phase 3 (R131). -/
@[simp] theorem phase3Pend_tovr (ev : Bool) : (phase3Pend ev s).tovr = (s.tovr || (ev && s.tpend)) := by
  cases ev <;> cases h : s.tpend <;> simp [phase3Pend, tickLost, h]

@[simp] theorem phase3Pend_params (ev : Bool) : (phase3Pend ev s).params = s.params := by
  unfold phase3Pend; split
  · rfl
  · split <;> simp
@[simp] theorem phase3Pend_pw (ev : Bool) : (phase3Pend ev s).pw = s.pw := by
  unfold phase3Pend; split
  · rfl
  · split <;> simp
@[simp] theorem phase3Pend_ft (ev : Bool) : (phase3Pend ev s).ft = s.ft := by
  unfold phase3Pend; split
  · rfl
  · split <;> simp
@[simp] theorem phase3Pend_tickEn (ev : Bool) : (phase3Pend ev s).tickEn = s.tickEn := by
  unfold phase3Pend; split
  · rfl
  · split <;> simp
@[simp] theorem phase3Pend_gapv (ev : Bool) : (phase3Pend ev s).gapv = s.gapv := by
  unfold phase3Pend; split
  · rfl
  · split <;> simp
@[simp] theorem phase3Pend_ill (ev : Bool) : (phase3Pend ev s).ill = s.ill := by
  unfold phase3Pend; split
  · rfl
  · split <;> simp
@[simp] theorem phase3Pend_sec (ev : Bool) : (phase3Pend ev s).sec = s.sec := by
  unfold phase3Pend; split
  · rfl
  · split <;> simp
@[simp] theorem phase3Pend_tph (ev : Bool) : (phase3Pend ev s).tph = s.tph := by
  unfold phase3Pend; split
  · rfl
  · split <;> simp
@[simp] theorem phase3Pend_busy (ev : Bool) : (phase3Pend ev s).busy = s.busy := by
  unfold phase3Pend; split
  · rfl
  · split <;> simp
@[simp] theorem phase3Pend_encN (ev : Bool) : (phase3Pend ev s).encN = s.encN := by
  unfold phase3Pend; split
  · rfl
  · split <;> simp
@[simp] theorem phase3Pend_encFrame (ev : Bool) : (phase3Pend ev s).encFrame = s.encFrame := by
  unfold phase3Pend; split
  · rfl
  · split <;> simp
@[simp] theorem phase3Pend_lowrun (ev : Bool) : (phase3Pend ev s).lowrun = s.lowrun := by
  unfold phase3Pend; split
  · rfl
  · split <;> simp
@[simp] theorem phase3Pend_frm (ev : Bool) : (phase3Pend ev s).frm = s.frm := by
  unfold phase3Pend; split
  · rfl
  · split <;> simp
@[simp] theorem phase3Pend_ledDout (ev : Bool) : (phase3Pend ev s).ledDout = s.ledDout := by
  unfold phase3Pend; split
  · rfl
  · split <;> simp
@[simp] theorem phase3Pend_servoOut (ev : Bool) : (phase3Pend ev s).servoOut = s.servoOut := by
  unfold phase3Pend; split
  · rfl
  · split <;> simp
@[simp] theorem phase3Pend_inputs (ev : Bool) : (phase3Pend ev s).inputs = s.inputs := by
  unfold phase3Pend; split
  · rfl
  · split <;> simp
@[simp] theorem phase3Pend_rsp (ev : Bool) : (phase3Pend ev s).rsp = s.rsp := by
  unfold phase3Pend; split
  · rfl
  · split <;> simp

end Sys2Proof.Machine
end

