-- ==== Sys2Proof/Laws/Cycle.lean ====
section
/-! SUPPORT. What phases 1 to 3 and a whole cycle can do, said once. -/

namespace Sys2Proof.Machine

open Config

variable (s : State)

theorem beforeHost_eq : beforeHost s = phase3Pend (tickEvent s) (phase2Service (phase1Source s).2) := by
  rw [← phase1Source_event]; rfl

/-! Phases 1 to 3 -/

/-- TPEND as a host command sees it (R70): the event of this cycle, or a tick held back by a frame. -/
@[simp] theorem beforeHost_tpend : (beforeHost s).tpend = (tickEvent s || (s.tpend && s.busy)) := by
  rw [beforeHost_eq]; cases tickEvent s <;> simp

/-- TOVR as a host command sees it (R131). -/
@[simp] theorem beforeHost_tovr : (beforeHost s).tovr = (s.tovr || (tickEvent s && (s.tpend && s.busy))) := by
  rw [beforeHost_eq]; simp

/-- TPH as a host command sees it (R130). -/
theorem beforeHost_tph : (beforeHost s).tph =
    if s.tickEn then (if s.tph = s.params.tickCyc - 1 then 0 else s.tph + 1) else s.tph := by
  rw [beforeHost_eq]; simp [phase1Source_tph]

/-- ft as a host command sees it: after the service of this cycle, if one runs (R132). -/
theorem beforeHost_ft : (beforeHost s).ft = if s.tpend && !s.busy then (tickService s).ft else s.ft := by
  rw [beforeHost_eq, phase3Pend_ft, phase2Service_eq]
  cases ht : s.tpend <;> cases hb : s.busy <;> simp [ht, hb]

/-- servoOut as a host command sees it: after the service of this cycle, if one runs (R132). -/
theorem beforeHost_servoOut : (beforeHost s).servoOut = if s.tpend && !s.busy then (tickService s).servoOut else s.servoOut := by
  rw [beforeHost_eq, phase3Pend_servoOut, phase2Service_eq]
  cases ht : s.tpend <;> cases hb : s.busy <;> simp [ht, hb]

/-- sec as a host command sees it: after the service of this cycle, if one runs (R132). -/
theorem beforeHost_sec : (beforeHost s).sec = if s.tpend && !s.busy then (tickService s).sec else s.sec := by
  rw [beforeHost_eq, phase3Pend_sec, phase2Service_eq]
  cases ht : s.tpend <;> cases hb : s.busy <;> simp [ht, hb]

/-- frm as a host command sees it: after the service of this cycle, if one runs (R132). -/
theorem beforeHost_frm : (beforeHost s).frm = if s.tpend && !s.busy then (tickService s).frm else s.frm := by
  rw [beforeHost_eq, phase3Pend_frm, phase2Service_eq]
  cases ht : s.tpend <;> cases hb : s.busy <;> simp [ht, hb]

@[simp] theorem beforeHost_params : (beforeHost s).params = s.params := by
  rw [beforeHost_eq]; simp
@[simp] theorem beforeHost_pw : (beforeHost s).pw = s.pw := by
  rw [beforeHost_eq]; simp
@[simp] theorem beforeHost_tickEn : (beforeHost s).tickEn = s.tickEn := by
  rw [beforeHost_eq]; simp
@[simp] theorem beforeHost_gapv : (beforeHost s).gapv = s.gapv := by
  rw [beforeHost_eq]; simp
@[simp] theorem beforeHost_ill : (beforeHost s).ill = s.ill := by
  rw [beforeHost_eq]; simp
@[simp] theorem beforeHost_busy : (beforeHost s).busy = s.busy := by
  rw [beforeHost_eq]; simp
@[simp] theorem beforeHost_encN : (beforeHost s).encN = s.encN := by
  rw [beforeHost_eq]; simp
@[simp] theorem beforeHost_encFrame : (beforeHost s).encFrame = s.encFrame := by
  rw [beforeHost_eq]; simp
@[simp] theorem beforeHost_lowrun : (beforeHost s).lowrun = s.lowrun := by
  rw [beforeHost_eq]; simp
@[simp] theorem beforeHost_ledDout : (beforeHost s).ledDout = s.ledDout := by
  rw [beforeHost_eq]; simp
@[simp] theorem beforeHost_inputs : (beforeHost s).inputs = s.inputs := by
  rw [beforeHost_eq]; simp
@[simp] theorem beforeHost_rsp : (beforeHost s).rsp = s.rsp := by
  rw [beforeHost_eq]; simp

/-! The same on the state whose port has been taken, in terms of the state before the cycle -/

theorem beforeHost_takePort_tph : (beforeHost s.takePort).tph =
    if s.tickEn then (if s.tph = s.params.tickCyc - 1 then 0 else s.tph + 1) else s.tph := beforeHost_tph s.takePort

theorem beforeHost_takePort_ft : (beforeHost s.takePort).ft =
    if s.tpend && !s.busy then nextTick s.params s.ft else s.ft := by
  rw [beforeHost_ft, tickService_ft]; rfl

theorem beforeHost_takePort_servoOut : (beforeHost s.takePort).servoOut =
    if s.tpend && !s.busy then (nextTick s.params s.ft).ule s.pw else s.servoOut := by
  rw [beforeHost_servoOut, tickService_servoOut]; rfl

theorem beforeHost_takePort_frm : (beforeHost s.takePort).frm =
    if s.tpend && !s.busy then
      (if nextTick s.params s.ft = 0#16 then (if s.frm + 1 = s.params.framesPerSec then 0 else s.frm + 1) else s.frm)
    else s.frm := by
  rw [beforeHost_frm, tickService_frm]; rfl

theorem beforeHost_takePort_sec : (beforeHost s.takePort).sec =
    if s.tpend && !s.busy then
      (if nextTick s.params s.ft = 0#16 then (if s.frm + 1 = s.params.framesPerSec then s.sec + 1#16 else s.sec)
      else s.sec)
    else s.sec := by
  rw [beforeHost_sec, tickService_sec]; rfl

@[simp] theorem takePort_tickEvent : tickEvent s.takePort = tickEvent s := rfl

/-! The accepted word -/

/-- A command is accepted exactly if RESET is low, no frame is being sent and the offered word decodes to it. -/
theorem acceptedInstr_eq_some {i : Instr} : acceptedInstr s = some i ↔
    s.port.reset = false ∧ s.busy = false ∧ ∃ w, s.port.cmd = some w ∧ decode w = .ok i := by
  unfold acceptedInstr acceptedWord
  cases hr : s.port.reset <;> cases hb : s.busy <;> cases hc : s.port.cmd with
  | none => simp
  | some w => cases hd : decode w <;> simp [hd]

/-- An illegal word is accepted exactly if RESET is low, no frame is being sent and the offered word does not decode. -/
theorem acceptsIllegal_eq_true : acceptsIllegal s = true ↔
    s.port.reset = false ∧ s.busy = false ∧ ∃ w e, s.port.cmd = some w ∧ decode w = .error e := by
  unfold acceptsIllegal acceptedWord
  cases hr : s.port.reset <;> cases hb : s.busy <;> cases hc : s.port.cmd with
  | none => simp
  | some w => cases hd : decode w <;> simp [hd]

/-! A whole cycle -/

/-- All that a step can do: reset the block (R210); hold (R54); go by with no word; take an illegal word (R167); or run
the accepted command (R54), with phases 1 to 3 before it and phase 5 after it. -/
theorem step_cases :
    (s.port.reset = true ∧ step s = .next s.takePort.applyReset) ∨
    (s.port.reset = false ∧ s.busy = true ∧ step s = .next (phase5Encoder false (beforeHost s.takePort))) ∨
    (s.port.reset = false ∧ s.busy = false ∧ s.port.cmd = none ∧
      step s = .next (phase5Encoder false (beforeHost s.takePort))) ∨
    (acceptsIllegal s = true ∧ step s = .next (phase5Encoder false (execIllegal (beforeHost s.takePort)))) ∨
    (∃ i, acceptedInstr s = some i ∧
      step s = afterHost (withStarted (startsFrame i) (exec i (beforeHost s.takePort)))) := by
  simp only [acceptsIllegal_eq_true, acceptedInstr_eq_some]
  cases hr : s.port.reset with
  | true => simp [step, cycle, hr]
  | false =>
    cases hb : s.busy with
    | true => simp [step, cycle, hr, phase4Host, hb, afterHost]
    | false =>
      cases hc : s.port.cmd with
      | none => simp [step, cycle, hr, phase4Host, hb, hc, afterHost]
      | some w => cases hd : decode w <;> simp [step, cycle, hr, phase4Host, hb, hc, hd, afterHost]

/-! The host access operations, as register updates -/

/-- A read gives a response and nothing else (R161). -/
theorem readCommand_eq (sel : RegSel) : readCommand sel s = s.respond (readReg s sel) := rfl

/-- An illegal word raises ILL and nothing else (R167). -/
theorem execIllegal_eq : execIllegal s = s.raise .ill := rfl

/-! Offering a word, and offering none -/

@[simp] theorem offering_port (w : Word) : (s.offering w).port = { reset := false, cmd := some w } := by
  simp only [State.offering]; split <;> rfl

@[simp] theorem offering_busy (w : Word) : (s.offering w).busy = false := by
  cases h : s.busy <;> simp [State.offering, h]

@[simp] theorem withoutWord_port : s.withoutWord.port = PortInput.idle := rfl

@[simp] theorem withoutWord_takePort : s.withoutWord.takePort = s.takePort := rfl

/-! Taking the port -/

@[simp] theorem takePort_port (x : PortInput) (l : List PortInput) : (s.setInputs (x :: l)).port = x := rfl

/-- The port of the next cycle. -/
theorem portAt_takePort (k : Nat) : s.takePort.portAt k = s.portAt (k + 1) := by
  cases h : s.inputs <;> simp [State.portAt, h]

/-- The port now is the port 0 cycles from now. -/
theorem portAt_zero : s.portAt 0 = s.port := by
  cases h : s.inputs <;> simp [State.portAt, State.port, h]

end Sys2Proof.Machine
end

