-- ==== Sys2Proof/Laws/Operands.lean ====
section
/-! SUPPORT. The bits of the words that operands and flags make. -/

namespace Sys2Proof.Machine

/-- The bits of the frame of a colour: blue lowest, then red, then green (R95). -/
theorem colourFrame_getLsbD (r g b : Channel) (k : Nat) : (colourFrame r g b).getLsbD k =
    if k < 8 then b.getLsbD k else if k < 16 then r.getLsbD (k - 8) else g.getLsbD (k - 16) := by
  unfold colourFrame
  rw [BitVec.getLsbD_append, BitVec.getLsbD_append]
  rcases Nat.lt_or_ge k 8 with h | h
  · simp [h]
  · rcases Nat.lt_or_ge k 16 with h' | h'
    · simp [Nat.not_lt.2 h, h', show k - 8 < 8 by omega]
    · simp [Nat.not_lt.2 h, Nat.not_lt.2 h', show ¬ k - 8 < 8 by omega, show k - 8 - 8 = k - 16 by omega]

/-- The bits of STATUS (R36, R162). -/
theorem statusWord_getLsbD (s : State) (k : Nat) : (statusWord s).getLsbD k =
    if k = 0 then s.tpend else if k = 1 then s.tovr else if k = 2 then s.gapv else if k = 3 then s.ill else false := by
  by_cases hk : k < 4
  · unfold statusWord zext32
    generalize s.ill = i, s.gapv = g, s.tovr = o, s.tpend = p
    interval_cases k <;> revert i g o p <;> decide
  · have h : ∀ (v : BitVec (1 + 1 + 1 + 1)), (zext32 v).getLsbD k = false := by
      intro v
      rw [zext32, BitVec.getLsbD_setWidth, BitVec.getLsbD_of_ge v k (by omega)]
      simp
    rw [statusWord, h]
    simp [show k ≠ 0 by omega, show k ≠ 1 by omega, show k ≠ 2 by omega, show k ≠ 3 by omega]

end Sys2Proof.Machine
end

