-- ==== Sys2Proof/Laws/PerInstr.lean ====
section
/-! SUPPORT. Facts about every command, one lemma per constructor. -/

namespace Sys2Proof.Laws.EncodesItsOpcode

/-- The OP nibble of each command's format (R82 to R86). -/
def opcodeOf : Instr → BitVec 4
  | .nop => 0#4
  | .send _ _ _ => 1#4
  | .wrPw _ => 2#4
  | .wrCtrl _ => 3#4
  | .rdStatus => 4#4
  | .rdFt => 4#4
  | .rdPw => 4#4
  | .rdCtrl => 4#4
  | .rdSec => 4#4

/-- The word of a command carries its format's OP in w[31:28] (R81). -/
def Statement (i : Instr) : Prop := fieldOp (encode i) = opcodeOf i

theorem nop : Statement .nop := rfl

theorem send (r g b : Channel) : Statement (.send r g b) := by
  apply BitVec.eq_of_getLsbD_eq
  intro k hk
  interval_cases k <;> simp [fieldOp, encode, opcodeOf]

theorem wrPw (v : Half) : Statement (.wrPw v) := by
  apply BitVec.eq_of_getLsbD_eq
  intro k hk
  interval_cases k <;> simp [fieldOp, encode, opcodeOf]

theorem wrCtrl (e : Bool) : Statement (.wrCtrl e) := by
  cases e <;> exact rfl

theorem rdStatus : Statement .rdStatus := rfl

theorem rdFt : Statement .rdFt := rfl

theorem rdPw : Statement .rdPw := rfl

theorem rdCtrl : Statement .rdCtrl := rfl

theorem rdSec : Statement .rdSec := rfl

end Sys2Proof.Laws.EncodesItsOpcode
end

