-- ==== Sys2Proof/Tests/Slice0.lean ====
section
/-! SUPPORT. The model's own tests. Expected values are those of spec/95_test_vectors.md (named V-… or by section) or
worked out by hand from the rule named; each witness_<Name> shows that the hypotheses of Obligations.<Name> can be met
together, clause by clause at boundary values. -/

namespace Sys2Proof.Tests

open Sys2Proof.Machine Sys2Proof.Config

/-! ### Well-formedness: each check refuses an ill-formed term (R92) -/

theorem test_wf_send_red : (AsmCommand.send 256 0 0).wellFormed = false := by decide
theorem test_wf_send_green : (AsmCommand.send 0 256 0).wellFormed = false := by decide
theorem test_wf_send_blue : (AsmCommand.send 0 0 256).wellFormed = false := by decide
theorem test_wf_wrPw : (AsmCommand.wrPw 65536).wellFormed = false := by decide
theorem test_wf_wrCtrl : (AsmCommand.wrCtrl 2).wellFormed = false := by decide
theorem test_wf_servo : (AsmCommand.servo 65536).wellFormed = false := by decide
theorem test_wf_sendRgb24 : (AsmCommand.sendRgb24 16777216).wellFormed = false := by decide
theorem test_wf_accepts : (AsmCommand.send 255 255 255).wellFormed = true ∧ (AsmCommand.wrCtrl 1).wellFormed = true := by
  decide
/-- R8: T0H_CYC >= T1H_CYC is no legal tuple. -/
theorem test_params_refused : ({ exs.toParamTuple with t0hCyc := 2 } : ParamTuple).legal = false := by decide
/-- R8: FRAME_LEN above 65536 is no legal tuple. -/
theorem test_frameLen_refused : ({ exs.toParamTuple with frameLen := 65537 } : ParamTuple).legal = false := by decide

/-! ### Decoding: a word for every constructor, written out from its format (R82 to R86) -/

theorem test_decode_nop : decode 0b00000000000000000000000000000000#32 = .ok .nop := by rfl
theorem test_decode_send : decode 0b00010000111111110000000010000001#32 = .ok (.send 255#8 0#8 129#8) := by rfl
theorem test_decode_wrPw : decode 0b00100000000000001000000000000110#32 = .ok (.wrPw 32774#16) := by rfl
theorem test_decode_wrCtrl_on : decode 0b00110000000000000000000000000001#32 = .ok (.wrCtrl true) := by rfl
theorem test_decode_wrCtrl_off : decode 0b00110000000000000000000000000000#32 = .ok (.wrCtrl false) := by rfl
theorem test_decode_rdStatus : decode 0b01000000000000000000000000000000#32 = .ok .rdStatus := by rfl
theorem test_decode_rdFt : decode 0b01000001000000000000000000000000#32 = .ok .rdFt := by rfl
theorem test_decode_rdPw : decode 0b01000010000000000000000000000000#32 = .ok .rdPw := by rfl
theorem test_decode_rdCtrl : decode 0b01000011000000000000000000000000#32 = .ok .rdCtrl := by rfl
theorem test_decode_rdSec : decode 0b01000100000000000000000000000000#32 = .ok .rdSec := by rfl
/-- 95_test_vectors.md 2.1: illegal words. -/
theorem test_decode_illegal : decode 0x1F123456#32 = .error .sendSelNonzero ∧ decode 0x31000001#32 = .error .wrCtrlHighNonzero ∧
    decode 0x44800000#32 = .error .rdReserved ∧ decode 0x4F000000#32 = .error .rdReserved ∧
    decode 0x80000000#32 = .error .reservedOp := by
  refine ⟨rfl, rfl, rfl, rfl, rfl⟩
/-- R92: the word of `SEND 255, 0, 128`. -/
theorem test_encode_send : encode (.send 255#8 0#8 128#8) = 0x10FF0080#32 := by decide

/-! ### The assembler (R92, R93) -/

theorem test_parse_send : parseLine ['S','E','N','D',' ','0','x','F','F',',',' ','0',',',' ','1','2','8'] =
    some (.send 255 0 128) := by decide
theorem test_parse_missing_operand : parseLine ['W','R','.','P','W'] = none := by decide
theorem test_assemble_rgb24 : assemble (.sendRgb24 0xFF0080) = some (.command 0x10FF0080#32) := by decide
theorem test_assemble_too_big : assemble (.wrPw 65536) = none := by decide

/-! ### Small states -/

/-- The reset state under EXS. -/
def quiet : State := State.resetWith exs

/-- A tuple with short bits, so that a frame has 72 cycles; the reset threshold is longer than a low time. -/
def tiny : Params where
  fClkHz := 1
  tBitCyc := 3
  t0hCyc := 1
  t1hCyc := 2
  tResetCyc := 3
  tickCyc := 73
  frameLen := 2
  framesPerSec := 2
  isLegal := by decide

/-- The same with a tick in every cycle and a reset threshold that a low time reaches. -/
def tinyFast : Params where
  fClkHz := 1
  tBitCyc := 3
  t0hCyc := 1
  t1hCyc := 2
  tResetCyc := 2
  tickCyc := 1
  frameLen := 2
  framesPerSec := 1
  isLegal := by decide

/-- A state under `p` with one word offered in the coming cycle and nothing after it. -/
def offered (p : Params) (w : Word) : State := (State.resetWith p).offering w

/-- The next state, or the state itself where there is none. -/
def nextOf (s : State) : State :=
  match step s with
  | .next t => t
  | .fault _ => s
  | .refused _ => s

/-- With one entry driven, RESET low in it, no reset ever comes. -/
theorem noReset_of_single {s : State} {x : PortInput} (h : s.inputs = [x]) (hx : x.reset = false) (n : Nat) :
    s.NoReset n := by
  intro k _
  cases k <;> simp [State.portAt, h, hx, PortInput.idle]

/-- With one entry driven, nothing is offered after the coming cycle. -/
theorem neverOffers_of_single {s : State} {x : PortInput} (h : s.inputs = [x]) (what : Instr → Bool) (lo n : Nat)
    (hlo : 1 ≤ lo) : s.NeverOffers what lo n := by
  intro k _ hk
  obtain ⟨j, rfl⟩ : ∃ j, k = j + 1 := ⟨k - 1, by omega⟩
  simp [State.offersAt, State.portAt, h, PortInput.idle]

/-- With nothing driven, no reset ever comes. -/
theorem noReset_of_none {s : State} (h : s.inputs = []) (n : Nat) : s.NoReset n := by
  intro k _
  simp [State.portAt, h, PortInput.idle]

/-- With nothing driven, nothing is ever offered. -/
theorem neverOffers_of_none {s : State} (h : s.inputs = []) (what : Instr → Bool) (lo n : Nat) :
    s.NeverOffers what lo n := by
  intro k _ _
  simp [State.offersAt, State.portAt, h, PortInput.idle]

/-! ### One step of each command -/

/-- The host's question on one word: the first step after reset runs it. -/
theorem test_reset_runs_wrPw :
    (match step (State.reset.withFetchWord 32 0x20000096) with
    | .next s => s.pw
    | _ => 0#16) = 150#16 := by decide
/-- V-SEND-3: the latch of `SEND 255, 0, 128`. -/
theorem test_send_latch : (nextOf (offered exs 0x10FF0080#32)).encFrame = 0x00FF80#24 := by decide
/-- V-GAP-3: a SEND with LOWRUN = 1 sets GAPV and still starts its frame. -/
theorem test_send_gap :
    (nextOf { offered exs 0x10000000#32 with lowrun := 1 }).gapv = true ∧
    (nextOf { offered exs 0x10000000#32 with lowrun := 1 }).busy = true := by decide
/-- V-SEND-7: under EX16 a 1 is 13 cycles high, a 0 is 6. -/
theorem test_level_ex16 : level ex16 0xFF0000#24 12 = true ∧ level ex16 0xFF0000#24 13 = false ∧
    level ex16 0x00FF00#24 5 = true ∧ level ex16 0x00FF00#24 6 = false := by decide
/-- V-WPW-3: a service in the cycle of WR.PW uses the old PW. -/
theorem test_wrPw_old :
    (nextOf { offered exs 0x20000006#32 with pw := 1#16, ft := 4#16, tpend := true }).servoOut = false ∧
    (nextOf { offered exs 0x20000006#32 with pw := 1#16, ft := 4#16, tpend := true }).pw = 6#16 := by decide
/-- V-WCT-1: WR.CTRL 0 discards the event of its own cycle. -/
theorem test_wrCtrl_discards :
    (nextOf { offered exs 0x30000000#32 with tickEn := true, tph := 4, servoOut := true }).tpend = false ∧
    (nextOf { offered exs 0x30000000#32 with tickEn := true, tph := 4, servoOut := true }).servoOut = true := by decide
/-- V-WCT-2: TPH is 0 after the cycle of WR.CTRL 1. -/
theorem test_wrCtrl_on : (nextOf (offered exs 0x30000001#32)).tph = 0 ∧ (nextOf (offered exs 0x30000001#32)).tickEn = true := by
  decide
/-- V-RD-4: all four flags. -/
theorem test_rdStatus :
    (nextOf { offered exs 0x40000000#32 with tickEn := true, tph := 4, tovr := true, gapv := true, ill := true }).rsp =
      some 0x0000000F#32 := by decide
/-- V-RD-3: the pending tick was serviced before the read. -/
theorem test_rdStatus_serviced :
    (nextOf { offered exs 0x40000000#32 with tickEn := true, tph := 1, tpend := true }).rsp = some 0#32 := by decide
/-- 42_host_access.md R163: the read sees the service of its own cycle. -/
theorem test_rdFt : (nextOf { offered exs 0x41000000#32 with tickEn := true, ft := 9#16, tpend := true }).rsp = some 0#32 := by
  decide
/-- V-RD-6. -/
theorem test_rdPw : (nextOf { offered exs 0x42000000#32 with pw := 0xBEEF#16 }).rsp = some 0x0000BEEF#32 := by decide
/-- V-RD-7. -/
theorem test_rdCtrl : (nextOf { offered exs 0x43000000#32 with tickEn := true }).rsp = some 1#32 := by decide
/-- V-RD-8. -/
theorem test_rdSec : (nextOf { offered exs 0x44000000#32 with sec := 0x1234#16 }).rsp = some 0x00001234#32 := by decide
/-- V-NOP-1. -/
theorem test_nop : nextOf (offered exs 0#32) = nextOf quiet := by decide
/-- V-ILL-1. -/
theorem test_illegal : nextOf { offered exs 0x20010007#32 with pw := 5#16 } = { quiet with pw := 5#16, ill := true } := by
  decide
/-- V-TICK-1: an event while a frame holds one pending is lost. -/
theorem test_tick_lost :
    (nextOf { quiet with tickEn := true, tph := 4, tpend := true, busy := true }).tovr = true := by decide
/-- V-SVC-15: SEC wraps. -/
theorem test_service_sec_wraps :
    (tickService { quiet with ft := 9#16, pw := 3#16, frm := 1, sec := 65535#16 }).sec = 0#16 := by decide
/-- V-RST-1. -/
theorem test_reset_cycle :
    nextOf { quiet with pw := 7#16, busy := true, ledDout := true, ill := true, lowrun := 0,
                        inputs := [{ reset := true, cmd := some 0x20000001#32 }] } = quiet := by decide
/-- R118: the reference decoder on two bits between gaps, and on a run that is no bit. -/
theorem test_decodeWire :
    decodeWire tiny [false, false, false, true, true, false, true, false, false, false, false] =
      [.bits [true, false]] ∧
    decodeWire tiny [false, false, false, true, true, true, false, false, false] = [.undecodable] := by decide
/-- R94: an idle item counts down only in cycles with BUSY = 0. -/
theorem test_idle_counts : afterCycle true [.idle 2] = [.idle 2] ∧ afterCycle false [.idle 2] = [.idle 1] := by decide

/-! ### Witnesses: the hypotheses of each statement can be met -/

theorem witness_LegalWordIsItsEncoding : decode 0x2000FFFF#32 = .ok (.wrPw 65535#16) := by rfl
theorem witness_OneRowOrIllegal : ∃ q, opcodeTable[8]? = some q ∧ q.selects 0x44000000#32 = true := ⟨_, rfl, by decide⟩
/-- The last operand that fits and the first that does not, for each clause. -/
theorem witness_AssembledWords : (255 : Nat) < 256 ∧ (256 : Nat) ≤ 256 ∧ (65535 : Nat) < 65536 ∧ (65536 : Nat) ≤ 65536 ∧
    (1 : Nat) < 2 ∧ (2 : Nat) ≤ 2 ∧ (16777215 : Nat) < 16777216 ∧ (16777216 : Nat) ≤ 16777216 := by decide
theorem witness_StepRunsDecodedCommand : (offered exs 0x10FF0080#32).port = { reset := false, cmd := some 0x10FF0080#32 } ∧
    (offered exs 0x10FF0080#32).busy = false ∧ decode 0x10FF0080#32 = .ok (.send 255#8 0#8 128#8) ∧
    (Instr.send 255#8 0#8 128#8).wellFormed = true := ⟨rfl, rfl, rfl, by decide⟩
theorem witness_PlacedWordRunsNext : decodeTableWord 32 0x2000FFFF = some (.wrPw 65535#16) := by decide
/-- The placed word runs next in a block that was sending a frame as well. -/
theorem test_placed_while_busy :
    (nextOf ({ quiet with busy := true, ledDout := true }.withFetchWord 32 0x20000009)).pw = 9#16 := by decide
theorem witness_BusyHoldsTheHost :
    ({ quiet with busy := true, inputs := [{ reset := false, cmd := some 0x20000009#32 }] } : State).port.reset = false ∧
    ({ quiet with busy := true, inputs := [{ reset := false, cmd := some 0x20000009#32 }] } : State).busy = true := by decide
theorem witness_NopIsLikeNoWord : (offered exs 0#32).port = { reset := false, cmd := some 0x00000000#32 } ∧
    (offered exs 0#32).busy = false := by decide
theorem witness_IllegalWordOnlySetsIll : (offered exs 0x45000000#32).port = { reset := false, cmd := some 0x45000000#32 } ∧
    (offered exs 0x45000000#32).busy = false ∧ decode 0x45000000#32 = .error .rdReserved := ⟨rfl, rfl, rfl⟩
theorem witness_ReadsHaveNoSideEffect : (offered exs 0x44000000#32).port = { reset := false, cmd := some 0x44000000#32 } ∧
    (offered exs 0x44000000#32).busy = false ∧ 0x44000000#32 = 0x4#4 ++ RegSel.sec.code ++ 0#24 := by decide
theorem witness_ResetCycle :
    ({ quiet with inputs := [{ reset := true, cmd := none }] } : State).port.reset = true := by decide
theorem witness_IllegalParametersRefused : exs.toParamTuple.legal = true ∧
    ({ exs.toParamTuple with t1hCyc := 4 } : ParamTuple).legal = false ∧
    ({ exs.toParamTuple with frameLen := 65536 } : ParamTuple).legal = true := by decide
theorem witness_StepKeepsInvariants : (offered exs 0x10FF0080#32).Inv ∧ ∃ t, step (offered exs 0x10FF0080#32) = .next t :=
  ⟨by decide, _, rfl⟩
theorem witness_StickyBitsClearedOnlyByReset :
    (∃ t, step { quiet with tovr := true, gapv := true, ill := true } = .next t) ∧
    ({ quiet with tovr := true, gapv := true, ill := true } : State).port.reset = false ∧
    (∃ t, step { quiet with ill := true, inputs := [{ reset := true, cmd := none }] } = .next t) ∧
    ({ quiet with ill := true, inputs := [{ reset := true, cmd := none }] } : State).port.reset = true :=
  ⟨⟨_, rfl⟩, rfl, ⟨_, rfl⟩, rfl⟩
theorem witness_StickyBitsSetOnCondition : (offered exs 0xF0000000#32).port.reset = false ∧
    ∃ t, step (offered exs 0xF0000000#32) = .next t := ⟨rfl, _, rfl⟩
theorem witness_JudgementFaultsFromThatCycleOn :
    (∃ t, step (offered exs 0#32) = .next t ∧ t.Safe) ∧
    (∃ t, step (offered exs 0xF0000000#32) = .next t ∧ ¬ t.Safe ∧ t.port.reset = false) :=
  ⟨⟨_, rfl, by decide⟩, ⟨_, rfl, by decide, by decide⟩⟩

/-- A state under EXS with a tick pending. -/
def pending (ft : Half) (frm : Nat) : State := { quiet with tickEn := true, tpend := true, ft := ft, frm := frm }

/-- The clauses of the service: FT not wrapping, wrapping with the second complete, wrapping without. -/
theorem witness_TickServiceCycle :
    ((pending 8 0).ft.toNat < exs.frameLen ∧ (pending 8 0).port.reset = false ∧ (pending 8 0).tpend = true ∧
      (pending 8 0).busy = false ∧ ∃ t, step (pending 8 0) = .next t ∧ t.ft.toNat ≠ 0) ∧
    ((pending 9 1).ft.toNat < exs.frameLen ∧ (pending 9 1).frm + 1 = exs.framesPerSec ∧
      ∃ t, step (pending 9 1) = .next t ∧ t.ft.toNat = 0) ∧
    ((pending 9 0).ft.toNat < exs.frameLen ∧ (pending 9 0).frm + 1 ≠ exs.framesPerSec ∧
      ∃ t, step (pending 9 0) = .next t ∧ t.ft.toNat = 0) :=
  ⟨⟨by decide, by decide, rfl, rfl, _, rfl, by decide⟩, ⟨by decide, by decide, _, rfl, by decide⟩,
    ⟨by decide, by decide, _, rfl, by decide⟩⟩
theorem witness_NoServiceNoServoChange :
    (quiet.port.reset = false ∧ quiet.tpend = false ∧ ∃ t, step quiet = .next t) ∧
    (({ quiet with tpend := true, busy := true } : State).busy = true ∧
      ∃ t, step { quiet with tpend := true, busy := true } = .next t) := ⟨⟨rfl, rfl, _, rfl⟩, rfl, _, rfl⟩
theorem witness_ControlRegistersNext :
    (offered exs 0x30000000#32).port.reset = false ∧ acceptedInstr (offered exs 0x30000000#32) = some (.wrCtrl false) ∧
    (∃ t, step (offered exs 0x30000000#32) = .next t) ∧ (offered exs 0x2000FFFF#32).port.reset = false ∧
    acceptedInstr (offered exs 0x2000FFFF#32) = some (.wrPw 65535#16) ∧ ∃ t, step (offered exs 0x2000FFFF#32) = .next t :=
  ⟨rfl, by decide, ⟨_, rfl⟩, rfl, by decide, _, rfl⟩

/-- WR.PW with a tick pending and one more to come in its own cycle. -/
def pwPending : State := { offered tinyFast 0x20000001#32 with tickEn := true, tpend := true }

theorem witness_PwSeenFromNextCycle : acceptedInstr pwPending = some (.wrPw 1#16) ∧ pwPending.tpend = true ∧
    pwPending.NoReset 3 ∧ pwPending.NeverOffers isWrPw 1 2 ∧
    ∃ t, core.run 2 pwPending = .next t ∧ t.tpend = true ∧ t.busy = false ∧ ∃ u, step t = .next u :=
  ⟨by decide, rfl, noReset_of_single rfl rfl 3, neverOffers_of_single rfl _ 1 2 (by decide), _, rfl, by decide, by decide,
    _, rfl⟩
theorem witness_ServoLevelFollowsCompare :
    (∀ v, acceptedInstr (pending 8 0) ≠ some (.wrPw v)) ∧ (pending 8 0).port.reset = false ∧ (pending 8 0).tpend = true ∧
    (pending 8 0).busy = false ∧ (∃ t, step (pending 8 0) = .next t) ∧
    (∀ v, acceptedInstr { quiet with servoOut := true } ≠ some (.wrPw v)) ∧
    ({ quiet with servoOut := true } : State).servoOut = decide (quiet.ft.toNat ≤ quiet.pw.toNat) :=
  ⟨fun v h => (by cases h), rfl, rfl, rfl, ⟨_, rfl⟩, fun v h => (by cases h), by decide⟩
theorem witness_TickEventEveryPeriod :
    ({ quiet with tickEn := true, tph := 4 } : State).tickEn = true ∧ (4 : Nat) < exs.tickCyc ∧
    ({ quiet with tickEn := true, tph := 4 } : State).NoReset 6 ∧
    ({ quiet with tickEn := true, tph := 4 } : State).NeverOffers isTickOff 0 6 :=
  ⟨rfl, by decide, noReset_of_none rfl 6, neverOffers_of_none rfl _ 0 6⟩
theorem witness_FirstTickAfterEnable :
    (offered exs 0x30000001#32).Inv ∧ (offered exs 0x30000001#32).tickEn = false ∧
    acceptedInstr (offered exs 0x30000001#32) = some (.wrCtrl true) ∧ (offered exs 0x30000001#32).NoReset 5 ∧
    (offered exs 0x30000001#32).NeverOffers isTickOff 1 5 :=
  ⟨by decide, rfl, by decide, noReset_of_single rfl rfl 5, neverOffers_of_single rfl _ 1 5 (by decide)⟩
theorem witness_DisabledTicksFreezeServo :
    ({ quiet with servoOut := true } : State).tickEn = false ∧ ({ quiet with servoOut := true } : State).tpend = false ∧
    ({ quiet with servoOut := true } : State).NoReset 9 ∧ ({ quiet with servoOut := true } : State).NeverOffers isTickOn 0 9 :=
  ⟨rfl, rfl, noReset_of_none rfl 9, neverOffers_of_none rfl _ 0 9⟩
theorem witness_PulseIsPwPlusOneTicks :
    (pending 9 0).ft.toNat = exs.frameLen - 1 ∧ ({ pending 9 0 with pw := 8#16 } : State).pw.toNat < exs.frameLen - 1 ∧
    (9 : Nat) < exs.frameLen := by decide
theorem witness_WidePulseNeverFalls :
    ({ pending 9 0 with pw := 9#16 } : State).ft.toNat < exs.frameLen ∧
    exs.frameLen - 1 ≤ ({ pending 9 0 with pw := 9#16 } : State).pw.toNat := by decide
theorem witness_SecondEveryFrameCount : (pending 9 1).ft.toNat < exs.frameLen ∧ (pending 9 1).frm < exs.framesPerSec := by
  decide

/-- A frame under `tiny` at position `n`. -/
def sending (n : Nat) : State := { State.resetWith tiny with busy := true, encN := n, lowrun := 0 }

theorem witness_EncoderNext :
    (acceptedInstr (offered tiny 0x10FF0080#32) = some (.send 255#8 0#8 128#8) ∧
      (offered tiny 0x10FF0080#32).port.reset = false ∧ ∃ t, step (offered tiny 0x10FF0080#32) = .next t) ∧
    ((sending 71).busy = true ∧ (sending 71).encN + 1 = tiny.frameCycles ∧ ∃ t, step (sending 71) = .next t) ∧
    ((sending 70).busy = true ∧ (sending 70).encN + 1 ≠ tiny.frameCycles ∧ ∃ t, step (sending 70) = .next t) ∧
    (quiet.busy = false ∧ acceptsSend quiet = false ∧ ∃ t, step quiet = .next t) :=
  ⟨⟨by decide, rfl, _, rfl⟩, ⟨rfl, by decide, _, rfl⟩, ⟨rfl, by decide, _, rfl⟩, ⟨rfl, by decide, _, rfl⟩⟩
theorem witness_LedWrittenOnlyByEncoder : (offered tiny 0x10FF0080#32).port.reset = false ∧
    ∃ t, step (offered tiny 0x10FF0080#32) = .next t ∧ t.ledDout ≠ (offered tiny 0x10FF0080#32).ledDout :=
  ⟨rfl, _, rfl, by decide⟩
theorem witness_LevelWithinBit : (0 : Nat) < 24 ∧ (23 : Nat) < 24 ∧ (0 : Nat) < tiny.tBitCyc ∧ (2 : Nat) < tiny.tBitCyc := by
  decide
theorem witness_FrameWaveform : acceptedInstr (offered tiny 0x10FF0080#32) = some (.send 255#8 0#8 128#8) ∧
    (71 : Nat) < (offered tiny 0x10FF0080#32).params.frameCycles ∧ (offered tiny 0x10FF0080#32).NoReset 72 :=
  ⟨by decide, by decide, noReset_of_single rfl rfl 72⟩
theorem witness_FrameEndsOnTime : acceptsSend (offered tiny 0x10FF0080#32) = true ∧
    (offered tiny 0x10FF0080#32).NoReset (tiny.frameCycles + 1) := ⟨by decide, noReset_of_single rfl rfl _⟩
/-- The frame end, the last cycle of the frame, and a tick recorded in the accepting cycle. -/
theorem witness_FrameIsNeverPreempted :
    acceptedInstr (offered tiny 0x10FF0080#32) = some (.send 255#8 0#8 128#8) ∧
    (72 : Nat) ≤ (offered tiny 0x10FF0080#32).params.frameCycles ∧ (offered tiny 0x10FF0080#32).NoReset 73 ∧
    (71 : Nat) < (offered tiny 0x10FF0080#32).params.frameCycles ∧
    acceptedInstr ({ offered tiny 0x10FF0080#32 with tickEn := true, tph := 72 } : State) = some (.send 255#8 0#8 128#8) ∧
    (beforeHost ({ offered tiny 0x10FF0080#32 with tickEn := true, tph := 72 } : State).takePort).tpend = true :=
  ⟨by decide, by decide, noReset_of_single rfl rfl 73, by decide, by decide, by decide⟩

/-- A SEND under `p` with ticks on, at tick phase `n`. -/
def sendTicking (p : Params) (n : Nat) : State := { offered p 0x10FF0080#32 with tickEn := true, tph := n }

/-- One event in the frame's window at phase 0 and at the last phase under `tiny`, many under `tinyFast`. -/
theorem witness_TicksDuringFrame :
    ((sendTicking tiny 0).Inv ∧ acceptsSend (sendTicking tiny 0) = true ∧ (sendTicking tiny 0).tickEn = true ∧
      (sendTicking tiny 0).NoReset (tiny.frameCycles + 2) ∧ (0 + tiny.frameCycles + 1) / tiny.tickCyc = 1) ∧
    ((sendTicking tiny 72).Inv ∧ (72 + tiny.frameCycles + 1) / tiny.tickCyc = 1) ∧
    ((sendTicking tinyFast 0).Inv ∧ 2 ≤ (0 + tinyFast.frameCycles + 1) / tinyFast.tickCyc) :=
  ⟨⟨by decide, by decide, rfl, noReset_of_single rfl rfl _, by decide⟩, ⟨by decide, by decide⟩, ⟨by decide, by decide⟩⟩
theorem witness_NoTickLostIffFrameFitsTick : tiny.frameCycles + 1 ≤ tiny.tickCyc ∧
    ¬ tinyFast.frameCycles + 1 ≤ tinyFast.tickCyc ∧ (sendTicking tiny 72).params = tiny ∧ (sendTicking tiny 72).Inv ∧
    acceptsSend (sendTicking tiny 72) = true ∧ (sendTicking tiny 72).tickEn = true ∧ (sendTicking tiny 72).tovr = false ∧
    (sendTicking tiny 72).NoReset (tiny.frameCycles + 1) ∧
    ∃ t, core.run (tiny.frameCycles + 1) (sendTicking tiny 72) = .next t :=
  ⟨by decide, by decide, rfl, by decide, by decide, rfl, rfl, noReset_of_single rfl rfl _, _, rfl⟩

/-- The state right after a frame ended, with a SEND offered `n` cycles later. -/
def afterFrame (n : Nat) : State :=
  { State.resetWith tiny with
    lowrun := 1
    inputs := List.replicate n PortInput.idle ++ [{ reset := false, cmd := some 0x10000000#32 }] }

theorem witness_LowrunCountsGap : (afterFrame 3).busy = false ∧ (afterFrame 3).ledDout = false ∧
    (afterFrame 3).lowrun ≤ tiny.tResetCyc ∧ (afterFrame 3).NoReset 3 ∧ (afterFrame 3).NeverOffers startsFrame 0 3 := by
  decide
/-- A gap one cycle too short and one just long enough under T_RESET_CYC = 3. -/
theorem witness_GapAvoidedIffLongEnough :
    ((afterFrame 1).busy = false ∧ (afterFrame 1).ledDout = false ∧ (afterFrame 1).lowrun = 1 ∧ (afterFrame 1).gapv = false ∧
      (afterFrame 1).NoReset 2 ∧ (afterFrame 1).NeverOffers startsFrame 0 1 ∧ (afterFrame 1).offersAt startsFrame 1 = true ∧
      ¬ tiny.tResetCyc ≤ 1 + 1) ∧
    ((afterFrame 2).NoReset 3 ∧ (afterFrame 2).NeverOffers startsFrame 0 2 ∧ (afterFrame 2).offersAt startsFrame 2 = true ∧
      tiny.tResetCyc ≤ 2 + 1) := by decide
theorem witness_HostHeldForWholeFrame :
    ∃ h : HostRun, h.block.busy = false ∧
      h.program = .command (encode (.send 1#8 2#8 3#8)) :: .command 0x20000009#32 :: [] ∧
      (1 : Nat) ≤ 72 ∧ 72 ≤ h.block.params.frameCycles :=
  ⟨{ program := [.command (encode (.send 1#8 2#8 3#8)), .command 0x20000009#32], block := State.resetWith tiny },
    rfl, rfl, by decide, by decide⟩
theorem witness_LedIndependentOfServo :
    (sendTicking tiny 72).SameEncoder { sendTicking tiny 0 with pw := 9#16, tovr := true, ft := 1#16 } ∧
    sendTicking tiny 72 ≠ { sendTicking tiny 0 with pw := 9#16, tovr := true, ft := 1#16 } := by decide
theorem witness_TimingIndependentOfColour :
    (offered tiny 0x10FF0080#32).eraseColour = (offered tiny 0x10123456#32).eraseColour ∧
    offered tiny 0x10FF0080#32 ≠ offered tiny 0x10123456#32 ∧
    (∃ t, core.run 3 (offered tiny 0x10FF0080#32) = .next t) ∧ (∃ t, core.run 3 (offered tiny 0x10123456#32) = .next t) :=
  ⟨by decide, by decide, ⟨_, rfl⟩, ⟨_, rfl⟩⟩
theorem witness_ReferenceDecoderReadsWaveform : tiny.tBitCyc < tiny.t0hCyc + tiny.tResetCyc := by decide
theorem witness_ShortResetThresholdSplitsFrame : tinyFast.tResetCyc + tinyFast.t0hCyc ≤ tinyFast.tBitCyc := by decide
theorem witness_SendRoundTripOnTheWire : acceptedInstr (offered tiny 0x10FF0080#32) = some (.send 255#8 0#8 128#8) ∧
    (offered tiny 0x10FF0080#32).lowrun = tiny.tResetCyc ∧ tiny.tBitCyc < tiny.t0hCyc + tiny.tResetCyc ∧
    (offered tiny 0x10FF0080#32).NoReset (tiny.frameCycles + tiny.tResetCyc) ∧
    (offered tiny 0x10FF0080#32).NeverOffers startsFrame (tiny.frameCycles + 1) (tiny.frameCycles + tiny.tResetCyc) :=
  ⟨by decide, rfl, by decide, noReset_of_single rfl rfl _, neverOffers_of_single rfl _ _ _ (by decide)⟩

/-- A response, and none: a read and a WR.PW accepted. -/
theorem witness_OnlyReadsRespond :
    (∃ t, step (offered exs 0x44000000#32) = .next t ∧ t.rsp ≠ none) ∧
    (∃ t, step (offered exs 0x2000FFFF#32) = .next t ∧ t.rsp = none) := ⟨⟨_, rfl, by decide⟩, ⟨_, rfl, rfl⟩⟩

/-- Log 23: at the wrap, WR.PW 0 after a constantly high PW leaves the line high in the service that sets FT = 0 (R133 to
R135), and the next service drives it low (R145). -/
theorem test_pw_lowered_at_frame_end : (tickService { pending 9 0 with servoOut := true }).servoOut = true ∧
    (tickService (tickService { pending 9 0 with servoOut := true })).servoOut = false := by decide

/-- Log 14: a sequence with no separator is one undecodable segment, and one with no high run is none. -/
theorem test_no_separator : decodeWire tiny [false, true, false] = [.undecodable] ∧ decodeWire tiny [false] = [] := by
  decide

end Sys2Proof.Tests
end

