-- ==== Sys2Proof/Proofs/PowerOn.lean ====
section
/-! PROOF. Power-on answers every parameter tuple: the reset state under one that meets R6, a refusal of any other (R8). -/

namespace Sys2Proof.Config

/-- `legal` is the constraint table of R6, read as a proposition. -/
theorem ParamTuple.legal_iff {t : ParamTuple} : t.legal = true ↔
    0 < t.fClkHz ∧ 1 ≤ t.t0hCyc ∧ t.t0hCyc < t.t1hCyc ∧ t.t1hCyc < t.tBitCyc ∧ 1 ≤ t.tResetCyc ∧ 1 ≤ t.tickCyc ∧
      1 ≤ t.frameLen ∧ t.frameLen ≤ 65536 ∧ 1 ≤ t.framesPerSec :=
  decide_eq_true_iff

end Sys2Proof.Config

namespace Sys2Proof.Machine

open Config

/-- Power-on under a checked tuple starts the block in its reset state (R8, R212). -/
theorem powerOn_toParamTuple (p : Params) : powerOn p.toParamTuple = .next (State.resetWith p) := by
  simp only [powerOn, (ParamTuple.check_eq_some p).mpr rfl]

/-- Power-on refuses a tuple that is not legal (R8). -/
theorem powerOn_of_not_legal {t : ParamTuple} (illegal : ¬ t.legal = true) :
    powerOn t = .refused .illegalParameters := by
  have unchecked : t.check = none := ParamTuple.check_eq_none.mpr (Bool.eq_false_iff.mpr illegal)
  simp only [powerOn, unchecked]

/-- Settles O24: the constraints of R6 are what `legal` decides, and power-on starts the block on a legal tuple and
refuses any other. -/
theorem illegalParametersRefused : Obligations.IllegalParametersRefused := by
  intro t
  rw [← ParamTuple.legal_iff]
  constructor
  · intro legal
    exact ⟨⟨t, legal⟩, rfl, powerOn_toParamTuple ⟨t, legal⟩⟩
  · exact powerOn_of_not_legal

end Sys2Proof.Machine
end

/-! PROOF. The cycle of one step (R50, R54): what it does with an accepted command, with a word held by BUSY, and with
the invariants of R56, which every phase and every command keeps. -/

namespace Sys2Proof.Machine

open Config

variable {s t : State} {i : Instr}

/-! ### What a step does with an offered word -/

/-- A table word names a command exactly if the word it stands for decodes to it. -/
theorem decodeTableWord_eq_some {nbits w : Nat} :
    decodeTableWord nbits w = some i ↔ decode (tableWord nbits w) = .ok i := by
  unfold decodeTableWord
  cases decode (tableWord nbits w) <;> simp

/-- Every command completes in every state (R180). -/
theorem exec_completes (i : Instr) (s : State) : ∃ t, exec i s = .next t := by
  cases i <;> exact ⟨_, rfl⟩

/-- The block accepts what is offered to it while RESET is low and no frame is being sent (R54). -/
theorem acceptedInstr_of_offered {w : Word} (port : s.port = { reset := false, cmd := some w })
    (idle : s.busy = false) (decodes : decode w = .ok i) : acceptedInstr s = some i :=
  (acceptedInstr_eq_some s).mpr ⟨by rw [port], idle, w, by rw [port], decodes⟩

/-- A step that accepts a command runs it between phases 3 and 5 (R54). -/
theorem step_of_acceptedInstr (accepted : acceptedInstr s = some i)
    (ran : exec i (beforeHost s.takePort) = .next t) : step s = .next (phase5Encoder (startsFrame i) t) := by
  obtain ⟨resetLow, idle, w, offered, decodes⟩ := (acceptedInstr_eq_some s).mp accepted
  have runs : step s = afterHost (withStarted (startsFrame i) (exec i (beforeHost s.takePort))) := by
    simpa [acceptsIllegal_eq_true, accepted, resetLow, idle, offered, decodes] using step_cases s
  rw [runs, ran]
  rfl

/-- While a frame is being sent, phase 4 does nothing, whatever word is offered (R54). -/
theorem step_of_busy (resetLow : s.port.reset = false) (busy : s.busy = true) :
    step s = .next (phase5Encoder false (beforeHost s.takePort)) := by
  simpa [acceptsIllegal_eq_true, acceptedInstr_eq_some, resetLow, busy] using step_cases s

/-- Settles O15: under its premises the block accepts `i`, and every command completes. -/
theorem stepRunsDecodedCommand : Obligations.StepRunsDecodedCommand := by
  intro s w i port idle decodes _
  have accepted := acceptedInstr_of_offered port idle decodes
  obtain ⟨t, ran⟩ := exec_completes i (beforeHost s.takePort)
  rw [step_of_acceptedInstr accepted ran, ran]

/-- Settles O16: a block with a word placed at its port is idle and accepts what the word decodes to. -/
theorem placedWordRunsNext : Obligations.PlacedWordRunsNext := by
  intro s w i decodes
  have accepted : acceptedInstr (s.withFetchWord 32 w) = some i :=
    acceptedInstr_of_offered (offering_port s _) (offering_busy s _) (decodeTableWord_eq_some.mp decodes)
  obtain ⟨t, ran⟩ := exec_completes i (beforeHost (s.withFetchWord 32 w).takePort)
  exact ⟨t, ran, step_of_acceptedInstr accepted ran⟩

/-- Settles O18: with and without the word the step is phases 1 to 3 and 5 on the same state, and none of them gives a
response. -/
theorem busyHoldsTheHost : Obligations.BusyHoldsTheHost := by
  intro s resetLow busy
  have held := step_of_busy resetLow busy
  have withoutWord := step_of_busy (s := s.withoutWord) rfl busy
  rw [withoutWord_takePort] at withoutWord
  exact ⟨held.trans withoutWord.symm, _, held, by simp⟩

/-! ### The invariants of R56, phase by phase -/

/-- The reset state meets the invariants under every legal tuple (R212). -/
theorem State.resetWith_inv (p : Params) : (State.resetWith p).Inv :=
  ⟨p.frameLen_pos, p.tick_pos, fun _ => ⟨rfl, rfl⟩, nofun, fun _ => rfl, Nat.le_refl _, p.framesPerSec_pos⟩

/-- There is no tick event while ticks are off (R130). -/
theorem tickEvent_of_tickEn_false (off : s.tickEn = false) : tickEvent s = false := by
  simp [tickEvent, off]

/-- FT stays below FRAME_LEN (R134). -/
theorem nextTick_lt (p : Params) {ft : Half} (inRange : ft.toNat < p.frameLen) :
    (nextTick p ft).toNat < p.frameLen := by
  rw [nextTick_toNat p ft inRange]
  exact Nat.mod_lt _ p.frameLen_pos

theorem beforeHost_ft_lt (inRange : s.ft.toNat < s.params.frameLen) :
    (beforeHost s).ft.toNat < s.params.frameLen := by
  rw [beforeHost_ft, tickService_ft]
  split
  · exact nextTick_lt s.params inRange
  · exact inRange

theorem beforeHost_tph_lt (inRange : s.tph < s.params.tickCyc) : (beforeHost s).tph < s.params.tickCyc := by
  rw [beforeHost_tph]
  split_ifs <;> omega

theorem beforeHost_frm_lt (inRange : s.frm < s.params.framesPerSec) :
    (beforeHost s).frm < s.params.framesPerSec := by
  rw [beforeHost_frm, tickService_frm]
  split_ifs <;> omega

/-- Phases 1 to 3 keep the invariants: they write no encoder register, and with ticks off neither TPH nor TPEND. -/
theorem beforeHost_keeps_inv (inv : s.Inv) : (beforeHost s).Inv := by
  obtain ⟨ft, tph, ticksOff, sending, lineLow, lowrun, frm⟩ := inv
  refine ⟨?_, ?_, ?_, ?_, ?_, ?_, ?_⟩
  · simpa using beforeHost_ft_lt ft
  · simpa using beforeHost_tph_lt tph
  · rw [beforeHost_tickEn]
    intro off
    obtain ⟨tphZero, nonePending⟩ := ticksOff off
    simp [beforeHost_tph, off, tphZero, nonePending, tickEvent_of_tickEn_false off]
  · simpa using sending
  · simpa using lineLow
  · simpa using lowrun
  · simpa using beforeHost_frm_lt frm

/-- The start of a frame keeps the invariants, with any latch and any first level (R100). -/
theorem frameStart_keeps_inv (inv : s.Inv) (frame : Frame) (led : Bool) :
    (((((s.setEncFrame frame).setBusy true).setEncN 0).setLedDout led).setLowrun 0).Inv := by
  obtain ⟨ft, tph, ticksOff, _, _, _, frm⟩ := inv
  refine ⟨?_, ?_, ?_, ?_, ?_, ?_, ?_⟩
  · simpa using ft
  · simpa using tph
  · simpa using ticksOff
  · simpa using s.params.frameCycles_pos
  · simp
  · simp
  · simpa using frm

/-- Every write of E keeps the invariants: with E = 0 it clears what they ask to be 0 (R142). -/
theorem execWrCtrl_keeps_inv (inv : s.Inv) (e : Bool) : ∃ t, execWrCtrl e s = .next t ∧ t.Inv := by
  obtain ⟨ft, tph, _, sending, lineLow, lowrun, frm⟩ := inv
  cases e with
  | false => exact ⟨_, rfl, ft, s.params.tick_pos, fun _ => ⟨rfl, rfl⟩, sending, lineLow, lowrun, frm⟩
  | true => exact ⟨_, rfl, ft, tph, by simp, sending, lineLow, lowrun, frm⟩

/-- SEND keeps the invariants, before the reset gap has elapsed as after it: GAPV is in none of them (R111). -/
theorem execSend_keeps_inv (inv : s.Inv) (r g b : Channel) : ∃ t, execSend r g b s = .next t ∧ t.Inv := by
  have flagged : (if gapTooShort s then s.raise .gapv else s).Inv := by
    split
    · exact inv
    · exact inv
  exact ⟨_, rfl, frameStart_keeps_inv flagged _ _⟩

/-- Every command keeps the invariants. NOP, WR.PW and the reads write nothing that they speak of. -/
theorem exec_keeps_inv (i : Instr) (inv : s.Inv) : ∃ t, exec i s = .next t ∧ t.Inv := by
  cases i with
  | nop => exact ⟨s, rfl, inv⟩
  | send r g b => exact execSend_keeps_inv inv r g b
  | wrPw v => exact ⟨s.setPw v, rfl, inv⟩
  | wrCtrl e => exact execWrCtrl_keeps_inv inv e
  | rdStatus => exact ⟨readCommand .status s, rfl, inv⟩
  | rdFt => exact ⟨readCommand .ft s, rfl, inv⟩
  | rdPw => exact ⟨readCommand .pw s, rfl, inv⟩
  | rdCtrl => exact ⟨readCommand .ctrl s, rfl, inv⟩
  | rdSec => exact ⟨readCommand .sec s, rfl, inv⟩

/-- Phase 5 keeps the invariants: a frame ends before ENC.N leaves it, with the line low, and LOWRUN saturates (R108 to
R110). -/
theorem phase5Encoder_keeps_inv (inv : s.Inv) (started : Bool) : (phase5Encoder started s).Inv := by
  have keeps := inv
  obtain ⟨ft, tph, ticksOff, sending, lineLow, lowrun, frm⟩ := inv
  rcases phase5Encoder_cases s started with
    ⟨-, same⟩ | ⟨-, -, -, ends⟩ | ⟨-, busy, notLast, advances⟩ | ⟨-, -, counts⟩
  · rw [same]
    exact keeps
  · rw [ends]
    exact ⟨ft, tph, ticksOff, by simp, fun _ => rfl, s.params.tReset_pos, frm⟩
  · rw [advances]
    have inFrame : s.encN + 1 < s.params.frameCycles := lt_of_le_of_ne (sending busy) notLast
    refine ⟨ft, tph, ticksOff, fun _ => inFrame, fun idle => ?_, lowrun, frm⟩
    exact absurd (busy.symm.trans idle) (by decide)
  · rw [counts]
    exact ⟨ft, tph, ticksOff, sending, lineLow, min_le_right _ _, frm⟩

/-- Settles O26: reset gives a state that meets the invariants, and otherwise each phase keeps them. -/
theorem stepKeepsInvariants : Obligations.StepKeepsInvariants := by
  intro s t inv stepped
  have before : (beforeHost s.takePort).Inv := beforeHost_keeps_inv (s := s.takePort) inv
  suffices ∃ u, step s = .next u ∧ u.Inv by
    obtain ⟨u, steps, kept⟩ := this
    rw [steps] at stepped
    cases stepped
    exact kept
  rcases step_cases s with
    ⟨-, reset⟩ | ⟨-, -, held⟩ | ⟨-, -, -, noWord⟩ | ⟨-, illegal⟩ | ⟨i, accepted, -⟩
  · exact ⟨_, reset, State.resetWith_inv s.params⟩
  · exact ⟨_, held, phase5Encoder_keeps_inv before false⟩
  · exact ⟨_, noWord, phase5Encoder_keeps_inv before false⟩
  · have raised : (execIllegal (beforeHost s.takePort)).Inv := before
    exact ⟨_, illegal, phase5Encoder_keeps_inv raised false⟩
  · obtain ⟨u, ran, kept⟩ := exec_keeps_inv i before
    exact ⟨_, step_of_acceptedInstr accepted ran, phase5Encoder_keeps_inv kept _⟩

end Sys2Proof.Machine

/-! PROOF. The selector map of R61 as the decoder reads it (R85), and the PW that a tick service compares with (R69): a
WR.PW is seen from the next cycle on. -/

namespace Sys2Proof.Machine

/-! ### The selector map -/

/-- A selector names a register exactly if it is the register's SEL value (R61). -/
theorem selectReg_eq_some {sel : BitVec 4} {r : RegSel} : selectReg sel = some r ↔ sel = r.code := by
  revert sel
  cases r <;> decide

/-- A reserved selector makes the word illegal, in the class of the reads (R85, R90). -/
theorem decode_reservedSelector :
    ∀ sel : BitVec 4, selectReg sel = none → decode (0x4#4 ++ sel ++ 0#24) = .error .rdReserved := by
  decide

/-- Settles O5: a selector is the SEL value of one of the five registers, whose word selects its row of R88, or it is
reserved. -/
theorem selectorMap : Obligations.SelectorMap := by
  intro sel
  cases named : selectReg sel with
  | none => exact decode_reservedSelector sel named
  | some r =>
    rw [selectReg_eq_some.mp named]
    cases r with
    | status => rfl
    | ft => rfl
    | pw => rfl
    | ctrl => rfl
    | sec => rfl

variable {s t : State} {i : Instr}

/-! ### What the rest of a cycle leaves as phases 1 to 3 left it -/

/-- No command writes FT, SERVO_OUT or the inputs. -/
theorem exec_frame (ran : exec i s = .next t) : t.ft = s.ft ∧ t.servoOut = s.servoOut ∧ t.inputs = s.inputs := by
  cases i with
  | send r g b =>
    cases ran
    cases gapTooShort s <;> simp
  | wrCtrl e =>
    cases ran
    cases e <;> simp
  | nop | wrPw v | rdStatus | rdFt | rdPw | rdCtrl | rdSec =>
    cases ran
    exact ⟨rfl, rfl, rfl⟩

/-- WR.PW alone writes PW. -/
theorem exec_pw_of_not_wrPw (other : isWrPw i = false) (ran : exec i s = .next t) : t.pw = s.pw := by
  cases i with
  | send r g b =>
    cases ran
    cases gapTooShort s <;> simp
  | wrPw v => cases other
  | wrCtrl e =>
    cases ran
    cases e <;> simp
  | nop | rdStatus | rdFt | rdPw | rdCtrl | rdSec =>
    cases ran
    rfl

/-- Without reset, a field that neither the accepted command, nor an illegal word, nor phase 5 writes is after the cycle
as phases 1 to 3 left it. -/
theorem step_keeps_field {α : Type} {field : State → α}
    (command : ∀ i u v, acceptedInstr s = some i → exec i u = .next v → field v = field u)
    (illegal : ∀ u, field (execIllegal u) = field u) (encoder : ∀ b u, field (phase5Encoder b u) = field u)
    (resetLow : s.port.reset = false) (stepped : step s = .next t) : field t = field (beforeHost s.takePort) := by
  rcases step_cases s with
    ⟨reset, -⟩ | ⟨-, -, held⟩ | ⟨-, -, -, noWord⟩ | ⟨-, illegalWord⟩ | ⟨i, accepted, -⟩
  · simp [resetLow] at reset
  · cases stepped.symm.trans held
    exact encoder _ _
  · cases stepped.symm.trans noWord
    exact encoder _ _
  · cases stepped.symm.trans illegalWord
    exact (encoder _ _).trans (illegal _)
  · obtain ⟨u, ran⟩ := exec_completes i (beforeHost s.takePort)
    cases stepped.symm.trans (step_of_acceptedInstr accepted ran)
    exact (encoder _ _).trans (command i _ u accepted ran)

/-- FT is written in phase 2 alone (R134). -/
theorem step_ft (resetLow : s.port.reset = false) (stepped : step s = .next t) : t.ft = (beforeHost s.takePort).ft :=
  step_keeps_field (field := State.ft) (fun _ _ _ _ ran => have ⟨kept, _, _⟩ := exec_frame ran; kept)
    (fun _ => rfl) (fun b u => phase5Encoder_ft u b) resetLow stepped

/-- SERVO_OUT is written in phase 2 alone (R135). -/
theorem step_servoOut (resetLow : s.port.reset = false) (stepped : step s = .next t) :
    t.servoOut = (beforeHost s.takePort).servoOut :=
  step_keeps_field (field := State.servoOut) (fun _ _ _ _ ran => have ⟨_, kept, _⟩ := exec_frame ran; kept)
    (fun _ => rfl) (fun b u => phase5Encoder_servoOut u b) resetLow stepped

/-- PW is written by an accepted WR.PW alone (R140). -/
theorem step_pw_of_no_wrPw (resetLow : s.port.reset = false)
    (noWrite : ∀ i, acceptedInstr s = some i → isWrPw i = false) (stepped : step s = .next t) : t.pw = s.pw := by
  have kept : t.pw = (beforeHost s.takePort).pw :=
    step_keeps_field (field := State.pw) (fun i _ _ accepted ran => exec_pw_of_not_wrPw (noWrite i accepted) ran)
      (fun _ => rfl) (fun b u => phase5Encoder_pw u b) resetLow stepped
  simpa using kept

/-- An accepted WR.PW is the PW of the next cycle (R140). -/
theorem step_pw_of_wrPw {q : Half} (accepted : acceptedInstr s = some (.wrPw q)) (stepped : step s = .next t) :
    t.pw = q := by
  cases stepped.symm.trans (step_of_acceptedInstr accepted rfl)
  simp

/-- A service compares the FT it sets with the PW of before the cycle (R135, R69). -/
theorem step_servoOut_of_service (resetLow : s.port.reset = false) (pending : s.tpend = true) (idle : s.busy = false)
    (stepped : step s = .next t) : t.servoOut = decide (t.ft.toNat ≤ s.pw.toNat) := by
  rw [step_servoOut resetLow stepped, step_ft resetLow stepped, beforeHost_takePort_servoOut, beforeHost_takePort_ft]
  simp [pending, idle, BitVec.ule]

/-! ### What is driven in the cycles of a run -/

/-- Every cycle, reset or not, takes one entry of what is driven (R210). -/
theorem step_inputs (stepped : step s = .next t) : t.inputs = s.inputs.tail := by
  cases reset : s.port.reset with
  | true =>
    simp only [step, cycle, reset, if_true] at stepped
    cases stepped
    simp
  | false =>
    have kept : t.inputs = (beforeHost s.takePort).inputs :=
      step_keeps_field (field := State.inputs) (fun _ _ _ _ ran => have ⟨_, _, kept⟩ := exec_frame ran; kept)
        (fun _ => rfl) (fun b u => phase5Encoder_inputs u b) reset stepped
    simpa using kept

theorem step_portAt (stepped : step s = .next t) (k : Nat) : t.portAt k = s.portAt (k + 1) := by
  rw [← portAt_takePort s k]
  simp only [State.portAt, step_inputs stepped, State.takePort_inputs]

theorem step_offersAt (stepped : step s = .next t) (what : Instr → Bool) (k : Nat) :
    t.offersAt what k = s.offersAt what (k + 1) := by
  simp only [State.offersAt, step_portAt stepped]

theorem State.NoReset.step {n : Nat} (noReset : s.NoReset (n + 1)) (stepped : step s = .next t) : t.NoReset n := by
  intro k inRange
  rw [step_portAt stepped]
  exact noReset (k + 1) (by omega)

theorem State.NeverOffers.step {what : Instr → Bool} {lo hi : Nat} (never : s.NeverOffers what lo (hi + 1))
    (stepped : step s = .next t) : t.NeverOffers what (lo - 1) hi := by
  intro k inRange late
  rw [step_offersAt stepped]
  exact never (k + 1) (by omega) (by omega)

/-- An accepted command is the one offered in this cycle. -/
theorem offersAt_zero_of_acceptedInstr (what : Instr → Bool) (accepted : acceptedInstr s = some i) :
    s.offersAt what 0 = what i := by
  obtain ⟨-, -, w, offered, decodes⟩ := (acceptedInstr_eq_some s).mp accepted
  simp [State.offersAt, portAt_zero, offered, decodes]

/-- In any machine, a run of one step more is a step and then the run. -/
theorem machineRun_succ_eq_next (M : Host.Core) {n : Nat} {s t : M.State} :
    M.run (n + 1) s = .next t ↔ ∃ u, M.step s = .next u ∧ M.run n u = .next t := by
  simp only [Host.Core.run]
  cases M.step s <;> simp

/-- A run of the block of one cycle more is a step and then the run. -/
theorem run_succ_eq_next {n : Nat} : core.run (n + 1) s = .next t ↔ ∃ u, step s = .next u ∧ core.run n u = .next t :=
  machineRun_succ_eq_next core

/-- After `n` cycles the port shows what was to be driven `n` cycles later. -/
theorem run_portAt {n : Nat} (ran : core.run n s = .next t) (k : Nat) : t.portAt k = s.portAt (k + n) := by
  induction n generalizing s with
  | zero => cases ran; rfl
  | succ n ih =>
    obtain ⟨u, stepped, rest⟩ := run_succ_eq_next.mp ran
    rw [ih rest, step_portAt stepped, Nat.add_assoc]

/-! ### The PW of a service -/

/-- PW holds over a run with no reset in which no WR.PW is offered (R140). -/
theorem run_keeps_pw {n : Nat} (noReset : s.NoReset n) (never : s.NeverOffers isWrPw 0 n)
    (ran : core.run n s = .next t) : t.pw = s.pw := by
  induction n generalizing s with
  | zero => cases ran; rfl
  | succ n ih =>
    obtain ⟨u, stepped, rest⟩ := run_succ_eq_next.mp ran
    have resetLow : s.port.reset = false := portAt_zero s ▸ noReset 0 (by omega)
    have noWrite : ∀ i, acceptedInstr s = some i → isWrPw i = false := fun i accepted =>
      (offersAt_zero_of_acceptedInstr isWrPw accepted).symm.trans (never 0 (by omega) (by omega))
    calc t.pw = u.pw := ih (noReset.step stepped) (never.step stepped) rest
      _ = s.pw := step_pw_of_no_wrPw resetLow noWrite stepped

/-- Settles O33: a service compares with the PW of before its cycle; the accepting cycle leaves PW = q, and it holds until
the service's cycle. -/
theorem pwSeenFromNextCycle : Obligations.PwSeenFromNextCycle := by
  intro s q accepted
  obtain ⟨resetLow, idle, -⟩ := (acceptedInstr_eq_some s).mp accepted
  constructor
  · intro t pending stepped
    exact step_servoOut_of_service resetLow pending idle stepped
  · intro n t u noReset never ran pending idleThen serviced
    obtain ⟨first, stepped, rest⟩ := run_succ_eq_next.mp ran
    have noResetRest : first.NoReset (n + 1) := noReset.step stepped
    have pwThen : t.pw = q := calc
      t.pw = first.pw := run_keeps_pw (fun k inRange => noResetRest k (by omega)) (never.step stepped) rest
      _ = q := step_pw_of_wrPw accepted stepped
    have resetLowThen : t.port.reset = false := by
      rw [← portAt_zero, run_portAt ran]
      exact noReset _ (by omega)
    rw [← pwThen]
    exact step_servoOut_of_service resetLowThen pending idleThen serviced

end Sys2Proof.Machine

/-! PROOF. The encoding (R81 to R93). A command word is read as a number: a row of R88 fixes the quotient of the word by
a power of two, the encoder adds the operands to the row's `match`, and the fields are digits. From that follow the
round trip in both directions, the disjointness of the rows, the classes of illegal words and the words of the
assembler. -/

namespace Sys2Proof

open Machine

/-! ### Words as numbers -/

/-- A word whose low `k` bits are 0, joined with one that has only those bits, is their sum. -/
theorem toNat_or_of_low {n : Nat} {high low : BitVec n} (k : Nat) (aligned : 2 ^ k ∣ high.toNat)
    (small : low.toNat < 2 ^ k) : (high ||| low).toNat = high.toNat + low.toNat := by
  rw [BitVec.toNat_or, ← Nat.mul_div_cancel' aligned, Nat.two_pow_add_eq_or_of_lt small]

/-- A mask that covers all but the low `k` bits keeps the multiple of `2 ^ k` below the word. -/
theorem toNat_and_mask {n : Nat} (w : BitVec n) (k : Nat) :
    (w &&& BitVec.allOnes n <<< k).toNat = 2 ^ k * (w.toNat / 2 ^ k) := by
  have inRange : w.toNat / 2 ^ k * 2 ^ k < 2 ^ n := (Nat.div_mul_le_self _ _).trans_lt w.isLt
  rw [← BitVec.shiftLeft_ushiftRight, BitVec.toNat_shiftLeft, BitVec.toNat_ushiftRight, Nat.shiftRight_eq_div_pow,
    Nat.shiftLeft_eq, Nat.mod_eq_of_lt inRange, Nat.mul_comm]

/-- A row whose mask covers all but the low `k` bits selects the words with the quotient by `2 ^ k` of its `match`. -/
theorem Row.selects_iff_div {row : Row} (k c : Nat) (mask : row.mask = BitVec.allOnes 32 <<< k)
    (pattern : row.pattern.toNat = 2 ^ k * c) {w : Word} : row.selects w = true ↔ w.toNat / 2 ^ k = c := by
  rw [Row.selects, beq_iff_eq, ← BitVec.toNat_inj, mask, toNat_and_mask, pattern]
  exact Nat.mul_right_inj (Nat.two_pow_pos k).ne'

/-- A field of `len` bits from bit `lo` on is a digit of the word's number. -/
theorem extractLsb'_toNat_eq {n : Nat} (w : BitVec n) (lo len : Nat) :
    (w.extractLsb' lo len).toNat = w.toNat / 2 ^ lo % 2 ^ len := by
  rw [BitVec.extractLsb'_toNat, Nat.shiftRight_eq_div_pow]

theorem fieldE_toNat (w : Word) : (fieldE w).toNat = w.toNat % 2 := by
  rw [fieldE, BitVec.getLsbD, Nat.testBit_zero]
  rcases Nat.mod_two_eq_zero_or_one w.toNat with even | odd
  · simp [even]
  · simp [odd]

/-! ### The words of the encoder -/

theorem encode_send_toNat (r g b : Channel) :
    (encode (.send r g b)).toNat = 0x10000000 + r.toNat * 65536 + g.toNat * 256 + b.toNat := by
  have red : (r.setWidth 32 <<< 16).toNat = r.toNat * 65536 := by
    have := r.isLt
    simp only [BitVec.toNat_shiftLeft, BitVec.toNat_setWidth, Nat.shiftLeft_eq]
    omega
  have green : (g.setWidth 32 <<< 8).toNat = g.toNat * 256 := by
    have := g.isLt
    simp only [BitVec.toNat_shiftLeft, BitVec.toNat_setWidth, Nat.shiftLeft_eq]
    omega
  have blue : (b.setWidth 32).toNat = b.toNat := BitVec.toNat_setWidth_of_le (by decide)
  have withRed : (0x10000000#32 ||| r.setWidth 32 <<< 16).toNat = 0x10000000 + r.toNat * 65536 := by
    rw [toNat_or_of_low 24 (by decide) (by have := r.isLt; omega), red]; rfl
  have withGreen : (0x10000000#32 ||| r.setWidth 32 <<< 16 ||| g.setWidth 32 <<< 8).toNat =
      0x10000000 + r.toNat * 65536 + g.toNat * 256 := by
    rw [toNat_or_of_low 16 (by omega) (by have := g.isLt; omega), withRed, green]
  rw [encode, toNat_or_of_low 8 (by omega) (by have := b.isLt; omega), withGreen, blue]

theorem encode_wrPw_toNat (v : Half) : (encode (.wrPw v)).toNat = 0x20000000 + v.toNat := by
  have value : (v.setWidth 32).toNat = v.toNat := BitVec.toNat_setWidth_of_le (by decide)
  rw [encode, toNat_or_of_low 16 (by decide) (value ▸ v.isLt), value]
  rfl

theorem encode_wrCtrl_toNat (e : Bool) : (encode (.wrCtrl e)).toNat = 0x30000000 + e.toNat := by
  cases e <;> rfl

@[simp] theorem fieldR_send (r g b : Channel) : fieldR (encode (.send r g b)) = r := by
  apply BitVec.eq_of_toNat_eq
  rw [fieldR, extractLsb'_toNat_eq, encode_send_toNat]
  omega

@[simp] theorem fieldG_send (r g b : Channel) : fieldG (encode (.send r g b)) = g := by
  apply BitVec.eq_of_toNat_eq
  rw [fieldG, extractLsb'_toNat_eq, encode_send_toNat]
  omega

@[simp] theorem fieldB_send (r g b : Channel) : fieldB (encode (.send r g b)) = b := by
  apply BitVec.eq_of_toNat_eq
  rw [fieldB, extractLsb'_toNat_eq, encode_send_toNat]
  omega

@[simp] theorem fieldV_wrPw (v : Half) : fieldV (encode (.wrPw v)) = v := by
  apply BitVec.eq_of_toNat_eq
  rw [fieldV, extractLsb'_toNat_eq, encode_wrPw_toNat]
  omega

/-! ### The rows of the map -/

/-- A row with a full mask selects its `match` only. -/
theorem Row.selects_iff_eq {row : Row} (mask : row.mask = BitVec.allOnes 32) {w : Word} :
    row.selects w = true ↔ w = row.pattern := by
  rw [Row.selects, beq_iff_eq, mask, BitVec.and_allOnes]

/-- The words that select a row: each row of R88 fixes the OP and the zero bits of its format. -/
theorem exists_selects_iff (w : Word) : (∃ row ∈ opcodeTable, row.selects w = true) ↔
    w = 0x00000000#32 ∨ w.toNat / 2 ^ 24 = 0x10 ∨ w.toNat / 2 ^ 16 = 0x2000 ∨ w.toNat / 2 ^ 1 = 0x18000000 ∨
      w = 0x40000000#32 ∨ w = 0x41000000#32 ∨ w = 0x42000000#32 ∨ w = 0x43000000#32 ∨ w = 0x44000000#32 := by
  simp only [opcodeTable, List.exists_mem_cons_iff, List.not_mem_nil, false_and, exists_false, or_false]
  refine or_congr (Row.selects_iff_eq rfl) (or_congr (Row.selects_iff_div 24 0x10 rfl rfl) (or_congr
    (Row.selects_iff_div 16 0x2000 rfl rfl) (or_congr (Row.selects_iff_div 1 0x18000000 rfl rfl) ?_)))
  exact or_congr (Row.selects_iff_eq rfl) (or_congr (Row.selects_iff_eq rfl) (or_congr (Row.selects_iff_eq rfl)
    (or_congr (Row.selects_iff_eq rfl) (Row.selects_iff_eq rfl))))

/-- Two rows of the map whose patterns agree under both masks stand in the same place. -/
theorem rows_incompatible : ∀ j k : Fin opcodeTable.length,
    opcodeTable[j].pattern &&& opcodeTable[k].mask = opcodeTable[k].pattern &&& opcodeTable[j].mask → j = k := by
  decide

/-- No word selects rows in two places: both patterns would be what their common mask leaves of the word. -/
theorem place_unique {w : Word} {j k : Nat} {q r : Row} (atJ : opcodeTable[j]? = some q)
    (atK : opcodeTable[k]? = some r) (selectsQ : q.selects w = true) (selectsR : r.selects w = true) : j = k := by
  obtain ⟨jInRange, rfl⟩ := List.getElem?_eq_some_iff.mp atJ
  obtain ⟨kInRange, rfl⟩ := List.getElem?_eq_some_iff.mp atK
  simp only [Row.selects, beq_iff_eq] at selectsQ selectsR
  have same := rows_incompatible ⟨j, jInRange⟩ ⟨k, kInRange⟩ (by
    simp only [Fin.getElem_fin]
    rw [← selectsQ, ← selectsR]
    ac_rfl)
  exact congrArg Fin.val same

theorem row_unique {w : Word} {q r : Row} (memQ : q ∈ opcodeTable) (memR : r ∈ opcodeTable)
    (selectsQ : q.selects w = true) (selectsR : r.selects w = true) : q = r := by
  obtain ⟨j, atJ⟩ := List.mem_iff_getElem?.mp memQ
  obtain ⟨k, atK⟩ := List.mem_iff_getElem?.mp memR
  rw [place_unique atJ atK selectsQ selectsR, atK] at atJ
  exact (Option.some.inj atJ).symm

/-- The word that selects a row is the encoding of the command the row builds from it: the mask pins every bit that
is no operand (R91). -/
theorem encode_build_of_selects {row : Row} (mem : row ∈ opcodeTable) {w : Word} (selected : row.selects w = true) :
    encode (row.build w) = w := by
  simp only [opcodeTable, List.mem_cons, List.not_mem_nil, or_false] at mem
  rcases mem with rfl | rfl | rfl | rfl | reads
  · exact ((Row.selects_iff_eq rfl).mp selected).symm
  · have op := (Row.selects_iff_div 24 0x10 rfl rfl).mp selected
    apply BitVec.eq_of_toNat_eq
    simp only [encode_send_toNat, fieldR, fieldG, fieldB, extractLsb'_toNat_eq]
    omega
  · have op := (Row.selects_iff_div 16 0x2000 rfl rfl).mp selected
    apply BitVec.eq_of_toNat_eq
    simp only [encode_wrPw_toNat, fieldV, extractLsb'_toNat_eq]
    omega
  · have op := (Row.selects_iff_div 1 0x18000000 rfl rfl).mp selected
    apply BitVec.eq_of_toNat_eq
    simp only [encode_wrCtrl_toNat, fieldE_toNat]
    omega
  · rcases reads with rfl | rfl | rfl | rfl | rfl <;> exact ((Row.selects_iff_eq rfl).mp selected).symm

/-- The word of every command selects a row, which builds the command from it. -/
theorem exists_row_of_encode (i : Instr) :
    ∃ row ∈ opcodeTable, row.selects (encode i) = true ∧ row.build (encode i) = i := by
  have atPlace (k : Nat) {row : Row} (place : opcodeTable[k]? = some row) (selected : row.selects (encode i) = true)
      (built : row.build (encode i) = i) :
      ∃ row ∈ opcodeTable, row.selects (encode i) = true ∧ row.build (encode i) = i :=
    ⟨row, List.mem_of_getElem? place, selected, built⟩
  cases i with
  | nop => exact atPlace 0 rfl rfl rfl
  | send r g b =>
    refine atPlace 1 rfl ((Row.selects_iff_div 24 0x10 rfl rfl).mpr ?_) ?_
    · have := encode_send_toNat r g b
      omega
    · simp only [fieldR_send, fieldG_send, fieldB_send]
  | wrPw v =>
    refine atPlace 2 rfl ((Row.selects_iff_div 16 0x2000 rfl rfl).mpr ?_) ?_
    · have := encode_wrPw_toNat v
      omega
    · simp only [fieldV_wrPw]
  | wrCtrl e => cases e <;> exact atPlace 3 rfl rfl rfl
  | rdStatus => exact atPlace 4 rfl rfl rfl
  | rdFt => exact atPlace 5 rfl rfl rfl
  | rdPw => exact atPlace 6 rfl rfl rfl
  | rdCtrl => exact atPlace 7 rfl rfl rfl
  | rdSec => exact atPlace 8 rfl rfl rfl

/-! ### The decoder -/

/-- The decoder finds a row exactly if the word selects it: no row before it can be selected as well. -/
theorem find_row_eq_some_iff {w : Word} {row : Row} :
    opcodeTable.find? (fun row => row.selects w) = some row ↔ row ∈ opcodeTable ∧ row.selects w = true := by
  constructor
  · intro found
    exact ⟨List.mem_of_find?_eq_some found, List.find?_some (p := fun row : Row => row.selects w) found⟩
  · rintro ⟨mem, selected⟩
    have finds : (opcodeTable.find? fun row => row.selects w).isSome := List.find?_isSome.mpr ⟨row, mem, selected⟩
    obtain ⟨first, found⟩ := Option.isSome_iff_exists.mp finds
    have selectedFirst := List.find?_some (p := fun row : Row => row.selects w) found
    rw [found, row_unique (List.mem_of_find?_eq_some found) mem selectedFirst selected]

/-- A word decodes to what the row it selects builds from it (R89). -/
theorem decode_eq_ok_iff {w : Word} {i : Instr} :
    decode w = .ok i ↔ ∃ row ∈ opcodeTable, row.selects w = true ∧ row.build w = i := by
  simp only [← and_assoc, ← find_row_eq_some_iff]
  unfold decode
  cases opcodeTable.find? (fun row => row.selects w) <;> simp

/-- A word is rejected, under the name that its OP gives, exactly if it selects no row (R89, R90). -/
theorem decode_eq_error_iff {w : Word} {e : IllegalWord} :
    decode w = .error e ↔ (¬ ∃ row ∈ opcodeTable, row.selects w = true) ∧ illegalClass w = e := by
  rw [← List.find?_isSome, Bool.not_eq_true, Option.isSome_eq_false_iff, Option.isNone_iff_eq_none]
  unfold decode
  cases opcodeTable.find? (fun row => row.selects w) <;> simp

/-- The operands of a command fit their fields by their type. -/
theorem Instr.wellFormed_eq_true (i : Instr) : i.wellFormed = true := by
  cases i with
  | send r g b => exact decide_eq_true ⟨r.isLt, g.isLt, b.isLt⟩
  | wrPw v => exact decide_eq_true v.isLt
  | wrCtrl e => exact decide_eq_true (Bool.toNat_lt e)
  | _ => rfl

/-- Settles O1: the word of a command selects the row that builds the command from it. -/
theorem decodeGivesBackEncoded : Obligations.DecodeGivesBackEncoded := fun i =>
  ⟨i.wellFormed_eq_true, decode_eq_ok_iff.mpr (exists_row_of_encode i)⟩

/-- Settles O2: a word that decodes selects a row, whose mask leaves only the operands free. -/
theorem legalWordIsItsEncoding : Obligations.LegalWordIsItsEncoding := by
  intro w i decodes
  obtain ⟨row, mem, selected, rfl⟩ := decode_eq_ok_iff.mp decodes
  exact encode_build_of_selects mem selected

/-- Settles O3: the patterns of two rows differ where both masks look, so the decoder's choice is the only one. -/
theorem oneRowOrIllegal : Obligations.OneRowOrIllegal := by
  refine ⟨fun w j k q r => place_unique, fun w i => decode_eq_ok_iff, fun w => ?_⟩
  simp only [decode_eq_error_iff, exists_and_left, exists_eq', and_true, not_exists, not_and, Bool.not_eq_true]

/-! ### The classes of illegal words -/

/-- The class of an illegal word is that of its OP (R90). -/
theorem illegalClass_iff_fieldOp (w : Word) :
    (illegalClass w = .reservedOp ↔ 5 ≤ (fieldOp w).toNat) ∧ (illegalClass w = .nonzeroNop ↔ fieldOp w = 0#4) ∧
    (illegalClass w = .sendSelNonzero ↔ fieldOp w = 1#4) ∧ (illegalClass w = .wrPwHighNonzero ↔ fieldOp w = 2#4) ∧
    (illegalClass w = .wrCtrlHighNonzero ↔ fieldOp w = 3#4) ∧ (illegalClass w = .rdReserved ↔ fieldOp w = 4#4) := by
  unfold illegalClass
  generalize fieldOp w = op
  revert op
  decide

/-- Settles O4: OP gives an illegal word its class, and within an OP the rows of R88 leave the words of R90 over. -/
theorem illegalWordClasses : Obligations.IllegalWordClasses := by
  intro w
  obtain ⟨reserved, nop, send, wrPw, wrCtrl, read⟩ := illegalClass_iff_fieldOp w
  simp only [decode_eq_error_iff, exists_selects_iff, reserved, nop, send, wrPw, wrCtrl, read]
  simp only [← BitVec.toNat_inj, ne_eq, fieldOp, fieldSel, fieldPay, extractLsb'_toNat_eq, BitVec.toNat_ofNat]
  have := w.isLt
  refine ⟨?_, ?_, ?_, ?_, ?_, ?_⟩ <;> omega

/-! ### The assembler -/

/-- An operand that does not fit its field is an assembly error (R92). -/
theorem assemble_of_not_wellFormed {c : AsmCommand} (unfit : c.wellFormed = false) : assemble c = none := by
  simp [assemble, unfit]

/-- A source command whose operands fit becomes the word of the command it stands for (R92). -/
theorem assemble_of_asmInstr {c : AsmCommand} {i : Instr} (fits : c.wellFormed = true) (means : asmInstr c = some i) :
    assemble c = some (.command (encode i)) := by
  cases c with
  | idle n => cases means
  | _ => simp only [assemble, fits, if_true, means, Option.map_some]

/-- Source commands with the same meaning and the same check assemble alike. -/
theorem assemble_congr {c d : AsmCommand} {i : Instr} (sameCheck : c.wellFormed = d.wellFormed)
    (means : asmInstr c = some i) (same : asmInstr d = some i) : assemble c = assemble d := by
  cases fits : c.wellFormed with
  | true => rw [assemble_of_asmInstr fits means, assemble_of_asmInstr (sameCheck ▸ fits) same]
  | false => rw [assemble_of_not_wellFormed fits, assemble_of_not_wellFormed (sameCheck ▸ fits)]

theorem assemble_send {r g b : Nat} (red : r < 256) (green : g < 256) (blue : b < 256) :
    assemble (.send r g b) = some (.command (BitVec.ofNat 32 (0x10000000 + r * 65536 + g * 256 + b))) := by
  rw [assemble_of_asmInstr (c := .send r g b) (decide_eq_true ⟨red, green, blue⟩) rfl]
  congr 2
  apply BitVec.eq_of_toNat_eq
  simp only [encode_send_toNat, BitVec.toNat_ofNat]
  omega

theorem assemble_wrPw {v : Nat} (fits : v < 65536) :
    assemble (.wrPw v) = some (.command (BitVec.ofNat 32 (0x20000000 + v))) := by
  rw [assemble_of_asmInstr (c := .wrPw v) (decide_eq_true fits) rfl]
  congr 2
  apply BitVec.eq_of_toNat_eq
  simp only [encode_wrPw_toNat, BitVec.toNat_ofNat]
  omega

theorem assemble_wrCtrl {e : Nat} (fits : e < 2) :
    assemble (.wrCtrl e) = some (.command (BitVec.ofNat 32 (0x30000000 + e))) := by
  interval_cases e <;> rfl

/-- A 24-bit colour fits exactly if the three digits it is split into do. -/
theorem wellFormed_sendRgb24 (c : Nat) :
    (AsmCommand.sendRgb24 c).wellFormed = (AsmCommand.send (c / 65536) (c / 256 % 256) (c % 256)).wellFormed := by
  simp only [AsmCommand.wellFormed, decide_eq_decide]
  omega

/-- `SEND.RGB24 c` is the SEND of the three base-256 digits of `c` (R93). -/
theorem asmInstr_sendRgb24 (c : Nat) :
    asmInstr (.sendRgb24 c) = asmInstr (.send (c / 65536) (c / 256 % 256) (c % 256)) := by
  refine congrArg some (congr (congrArg₂ Instr.send ?red ?green) ?blue) <;>
  · apply BitVec.eq_of_toNat_eq
    simp only [extractLsb'_toNat_eq, BitVec.toNat_ofNat]
    omega

theorem assemble_sendRgb24 (c : Nat) :
    assemble (.sendRgb24 c) = assemble (.send (c / 65536) (c / 256 % 256) (c % 256)) :=
  assemble_congr (wellFormed_sendRgb24 c) (asmInstr_sendRgb24 c) rfl

theorem assemble_sendRgb24_of_lt {c : Nat} (fits : c < 16777216) :
    assemble (.sendRgb24 c) = some (.command (BitVec.ofNat 32 (0x10000000 + c))) := by
  rw [assemble_sendRgb24, assemble_send (by omega) (by omega) (by omega)]
  congr 3
  omega

/-- Settles O7: an operand that does not fit is an error; one that fits is added to the `match` of its row. -/
theorem assembledWords : Obligations.AssembledWords := by
  refine ⟨rfl, fun r g b => assemble_send, fun r g b unfit => ?_, fun v => assemble_wrPw, fun v unfit => ?_,
    fun e => assemble_wrCtrl, fun e unfit => ?_, rfl, rfl, rfl, rfl, rfl, rfl, rfl, fun v => rfl, assemble_sendRgb24,
    fun c => assemble_sendRgb24_of_lt, fun c unfit => ?_, fun n => rfl⟩
  all_goals exact assemble_of_not_wellFormed (decide_eq_false (by omega))

/-- Settles O6: the legal words are encodings; the others select no row, and OP names their class. -/
theorem sampleWordsDecode : Obligations.SampleWordsDecode := by
  have legal (i : Instr) : decode (encode i) = .ok i := (decodeGivesBackEncoded i).2
  refine ⟨legal .nop, legal (.send 255#8 0#8 128#8), legal (.wrPw 65535#16), legal (.wrCtrl true), legal .rdStatus,
    legal .rdSec, ?_⟩
  exact ⟨rfl, rfl, rfl, rfl, rfl, rfl⟩

end Sys2Proof

/-! PROOF. The encoder's registers over one cycle (R100, R108 to R112): what SEND writes, what every other command
leaves alone, and the ways a cycle can go for the frame. -/

namespace Sys2Proof.Machine

open Config

variable {s t : State} {i : Instr} {r g b : Channel}

/-! ### SEND -/

/-- The check of R111 raises GAPV exactly before the reset gap has elapsed, and does nothing else. -/
theorem raise_gapv_if_gapTooShort (s : State) : (if gapTooShort s then s.raise .gapv else s) =
    { s with gapv := s.gapv || decide (s.lowrun < s.params.tResetCyc) } := by
  by_cases early : s.lowrun < s.params.tResetCyc <;> simp [gapTooShort, State.raise, early]

/-- Settles O9: the check of R111 and then one write for each encoder register; the first level of a frame is high. -/
theorem sendStartsFrame : Obligations.SendStartsFrame := by
  intro r g b s
  simp only [exec, execSend, raise_gapv_if_gapTooShort, level_zero]
  rfl

theorem startsFrame_eq_true : startsFrame i = true ↔ ∃ r g b, i = .send r g b := by
  cases i <;> simp [startsFrame]

theorem acceptsSend_eq_true : acceptsSend s = true ↔ ∃ r g b, acceptedInstr s = some (.send r g b) := by
  unfold acceptsSend
  cases acceptedInstr s <;> simp [startsFrame_eq_true]

theorem startsFrame_of_acceptsSend_false (noSend : acceptsSend s = false) (accepted : acceptedInstr s = some i) :
    startsFrame i = false := by
  simpa [acceptsSend, accepted] using noSend

/-- A cycle in which no SEND is offered accepts none. -/
theorem acceptsSend_of_offersAt_false (noOffer : s.offersAt startsFrame 0 = false) : acceptsSend s = false := by
  rw [← Bool.not_eq_true, acceptsSend_eq_true]
  rintro ⟨r, g, b, accepted⟩
  simp [offersAt_zero_of_acceptedInstr startsFrame accepted, startsFrame] at noOffer

/-- The whole cycle that accepts a SEND: phases 1 to 3 and the writes of R100. -/
theorem step_of_send (accepted : acceptedInstr s = some (.send r g b)) : step s = .next
    { beforeHost s.takePort with
      gapv := s.gapv || decide (s.lowrun < s.params.tResetCyc)
      encFrame := g ++ r ++ b
      busy := true
      encN := 0
      ledDout := true
      lowrun := 0 } := by
  rw [step_of_acceptedInstr accepted (sendStartsFrame r g b _), startsFrame, phase5Encoder_started]
  simp

/-! ### A cycle while a frame is being sent -/

/-- The last cycle of a frame (R109). -/
theorem step_of_last (resetLow : s.port.reset = false) (busy : s.busy = true)
    (last : s.encN + 1 = s.params.frameCycles) : step s = .next (endFrame (beforeHost s.takePort)) := by
  rw [step_of_busy resetLow busy]
  simp [phase5Encoder, busy, last]

/-- Every other cycle of a frame (R108). -/
theorem step_of_not_last (resetLow : s.port.reset = false) (busy : s.busy = true)
    (notLast : s.encN + 1 ≠ s.params.frameCycles) : step s = .next (advanceFrame (beforeHost s.takePort)) := by
  rw [step_of_busy resetLow busy]
  simp [phase5Encoder, busy, notLast]

/-! ### A cycle between frames -/

/-- The encoder's registers and the line are the same in both states. -/
structure EncoderUntouched (s t : State) : Prop where
  params : t.params = s.params
  busy : t.busy = s.busy
  encN : t.encN = s.encN
  encFrame : t.encFrame = s.encFrame
  ledDout : t.ledDout = s.ledDout
  lowrun : t.lowrun = s.lowrun

theorem EncoderUntouched.trans {u : State} (first : EncoderUntouched s t) (second : EncoderUntouched t u) :
    EncoderUntouched s u :=
  ⟨second.params.trans first.params, second.busy.trans first.busy, second.encN.trans first.encN,
    second.encFrame.trans first.encFrame, second.ledDout.trans first.ledDout, second.lowrun.trans first.lowrun⟩

/-- Phases 1 to 3 write no encoder register (R105). -/
theorem beforeHost_encoderUntouched (s : State) : EncoderUntouched s (beforeHost s.takePort) := by
  constructor <;> simp

/-- No command but SEND writes an encoder register (R112). -/
theorem exec_encoderUntouched (notSend : startsFrame i = false) (ran : exec i s = .next t) : EncoderUntouched s t := by
  cases i with
  | send r g b => cases notSend
  | wrCtrl e => cases ran; cases e <;> exact ⟨rfl, rfl, rfl, rfl, rfl, rfl⟩
  | nop | wrPw v | rdStatus | rdFt | rdPw | rdCtrl | rdSec => cases ran; exact ⟨rfl, rfl, rfl, rfl, rfl, rfl⟩

/-- Between frames a cycle without a SEND counts one low cycle and leaves the other encoder registers alone (R110). -/
theorem step_of_idle (resetLow : s.port.reset = false) (idle : s.busy = false) (noSend : acceptsSend s = false)
    (stepped : step s = .next t) : ∃ u, EncoderUntouched s u ∧ t = countLow u := by
  have counts {u : State} (same : EncoderUntouched s u) : phase5Encoder false u = countLow u := by
    simp [phase5Encoder, same.busy, idle]
  have before := beforeHost_encoderUntouched s
  rcases step_cases s with
    ⟨reset, -⟩ | ⟨-, busy, -⟩ | ⟨-, -, -, noWord⟩ | ⟨-, illegal⟩ | ⟨i, accepted, -⟩
  · simp [resetLow] at reset
  · simp [idle] at busy
  · cases stepped.symm.trans noWord
    exact ⟨_, before, counts before⟩
  · have raised : EncoderUntouched s (execIllegal (beforeHost s.takePort)) :=
      before.trans ⟨rfl, rfl, rfl, rfl, rfl, rfl⟩
    cases stepped.symm.trans illegal
    exact ⟨_, raised, counts raised⟩
  · have notSend := startsFrame_of_acceptsSend_false noSend accepted
    obtain ⟨u, ran⟩ := exec_completes i (beforeHost s.takePort)
    have after := before.trans (exec_encoderUntouched notSend ran)
    cases stepped.symm.trans (step_of_acceptedInstr accepted ran)
    exact ⟨u, after, notSend ▸ counts after⟩

/-! ### The encoder's registers after a cycle -/

/-- ENC.FRAME is written by a SEND alone (R100). -/
theorem step_encFrame_of_no_send (resetLow : s.port.reset = false) (noSend : acceptsSend s = false)
    (stepped : step s = .next t) : t.encFrame = s.encFrame := by
  have kept : t.encFrame = (beforeHost s.takePort).encFrame :=
    step_keeps_field (field := State.encFrame)
      (fun _ _ _ accepted ran =>
        (exec_encoderUntouched (startsFrame_of_acceptsSend_false noSend accepted) ran).encFrame)
      (fun _ => rfl) (fun b u => phase5Encoder_encFrame u b) resetLow stepped
  simpa using kept

/-- Settles O41: a SEND starts a frame, a frame ends or goes on, or LOWRUN counts. -/
theorem encoderNext : Obligations.EncoderNext := by
  intro s t resetLow stepped
  refine ⟨fun r g b accepted => ?_, fun noSend => step_encFrame_of_no_send resetLow noSend stepped,
    fun busy last => ?_, fun busy notLast => ?_, fun idle noSend => ?_⟩
  · cases stepped.symm.trans (step_of_send accepted)
    exact ⟨rfl, rfl, rfl, rfl, rfl⟩
  · cases stepped.symm.trans (step_of_last resetLow busy last)
    simp
  · cases stepped.symm.trans (step_of_not_last resetLow busy notLast)
    simp [busy]
  · obtain ⟨u, same, rfl⟩ := step_of_idle resetLow idle noSend stepped
    simp [same.busy, same.ledDout, same.encN, same.lowrun, same.params, idle]

/-- Settles O42: with no frame running and no SEND accepted, LED_DOUT holds. -/
theorem ledWrittenOnlyByEncoder : Obligations.LedWrittenOnlyByEncoder := by
  intro s t resetLow stepped changed
  by_contra neither
  simp only [not_or, Bool.not_eq_true] at neither
  obtain ⟨idle, noSend⟩ := neither
  obtain ⟨-, -, -, -, between⟩ := encoderNext s t resetLow stepped
  obtain ⟨-, held, -⟩ := between idle noSend
  exact changed held

end Sys2Proof.Machine

/-! PROOF. A whole frame on the line (R102, R108, R109, R113 to R117) and the gap after it (R110). A frame runs for
24·T_BIT_CYC cycles in which no word is accepted and no tick serviced, whatever is driven. -/

namespace Sys2Proof.Machine

open Config

variable {s t u : State} {r g b : Channel} {p : Params} {f : Frame} {m n : Nat}

/-! ### Runs -/

/-- Every step answers a next state (R180). -/
theorem step_completes (s : State) : ∃ t, step s = .next t := by
  rcases step_cases s with ⟨-, steps⟩ | ⟨-, -, steps⟩ | ⟨-, -, -, steps⟩ | ⟨-, steps⟩ | ⟨i, accepted, -⟩
  · exact ⟨_, steps⟩
  · exact ⟨_, steps⟩
  · exact ⟨_, steps⟩
  · exact ⟨_, steps⟩
  · obtain ⟨t, ran⟩ := exec_completes i (beforeHost s.takePort)
    exact ⟨_, step_of_acceptedInstr accepted ran⟩

theorem run_completes (n : Nat) (s : State) : ∃ t : State, core.run n s = .next t := by
  induction n generalizing s with
  | zero => exact ⟨s, rfl⟩
  | succ n ih =>
    obtain ⟨u, stepped⟩ := step_completes s
    obtain ⟨t, rest⟩ := ih u
    exact ⟨t, run_succ_eq_next.mpr ⟨u, stepped, rest⟩⟩

/-- After `m` cycles a run goes on from the state they lead to. -/
theorem run_add (first : core.run m s = .next u) : core.run (m + n) s = .next t ↔ core.run n u = .next t := by
  induction m generalizing s with
  | zero => cases first; rw [Nat.zero_add]
  | succ m ih =>
    obtain ⟨v, stepped, rest⟩ := run_succ_eq_next.mp first
    rw [Nat.add_right_comm, run_succ_eq_next, ← ih rest]
    simp [stepped]

theorem run_one : core.run 1 s = .next t ↔ step s = .next t := by
  rw [run_succ_eq_next]
  exact ⟨by rintro ⟨u, stepped, ⟨⟩⟩; exact stepped, fun stepped => ⟨t, stepped, rfl⟩⟩

/-- A run of one cycle more, seen from its end. -/
theorem run_succ_eq_next_last : core.run (n + 1) s = .next t ↔ ∃ u, core.run n s = .next u ∧ step u = .next t := by
  obtain ⟨u, first⟩ := run_completes n s
  rw [run_add first, run_one]
  refine ⟨fun stepped => ⟨u, first, stepped⟩, fun ⟨v, same, stepped⟩ => ?_⟩
  cases first.symm.trans same
  exact stepped

/-- RESET is low in the cycle after `n`. -/
theorem State.NoReset.after (noReset : s.NoReset (n + 1)) (ran : core.run n s = .next t) : t.port.reset = false := by
  rw [← portAt_zero, run_portAt ran]
  exact noReset _ (by omega)

/-- The invariants of R56 hold along every run that starts in them. -/
theorem run_keeps_inv (inv : s.Inv) (ran : core.run n s = .next t) : t.Inv := by
  induction n generalizing s with
  | zero => cases ran; exact inv
  | succ n ih =>
    obtain ⟨u, stepped, rest⟩ := run_succ_eq_next.mp ran
    exact ih (stepKeepsInvariants s u inv stepped) rest

/-! ### Inside a frame -/

/-- The block is sending the frame `f` under `p` and drives its cycle `n` (R102). -/
structure InFrame (p : Params) (f : Frame) (n : Nat) (s : State) : Prop where
  params : s.params = p
  busy : s.busy = true
  encN : s.encN = n
  encFrame : s.encFrame = f
  ledDout : s.ledDout = level p f n
  rsp : s.rsp = none

/-- The frame has ended in the cycle just stepped (R109). -/
structure FrameEnded (p : Params) (s : State) : Prop where
  params : s.params = p
  busy : s.busy = false
  ledDout : s.ledDout = false
  lowrun : s.lowrun = 1

/-- An accepted SEND starts its frame (R100). -/
theorem inFrame_of_send (accepted : acceptedInstr s = some (.send r g b)) (stepped : step s = .next u) :
    InFrame s.params (g ++ r ++ b) 0 u := by
  cases stepped.symm.trans (step_of_send accepted)
  constructor <;> simp

/-- A frame goes on to its next cycle (R108). -/
theorem InFrame.next (sending : InFrame p f n s) (notLast : n + 1 < p.frameCycles) (resetLow : s.port.reset = false)
    (stepped : step s = .next t) : InFrame p f (n + 1) t := by
  obtain ⟨rfl, busy, rfl, rfl, -, -⟩ := sending
  cases stepped.symm.trans (step_of_not_last resetLow busy notLast.ne)
  constructor <;> simp [busy]

/-- After its last cycle a frame ends (R109). -/
theorem InFrame.ends (sending : InFrame p f n s) (last : n + 1 = p.frameCycles) (resetLow : s.port.reset = false)
    (stepped : step s = .next t) : FrameEnded p t := by
  obtain ⟨rfl, busy, rfl, -, -, -⟩ := sending
  cases stepped.symm.trans (step_of_last resetLow busy last)
  constructor <;> simp

/-- From the start of a frame, `n` cycles lead to its cycle `n` (R102). -/
theorem run_inFrame (start : InFrame p f 0 s) (inRange : n < p.frameCycles) (noReset : s.NoReset n)
    (ran : core.run n s = .next t) : InFrame p f n t := by
  induction n generalizing t with
  | zero => cases ran; exact start
  | succ n ih =>
    obtain ⟨u, rest, stepped⟩ := run_succ_eq_next_last.mp ran
    have before : InFrame p f n u := ih (by omega) (fun k early => noReset k (by omega)) rest
    exact before.next inRange (noReset.after rest) stepped

/-- A frame is over 24·T_BIT_CYC cycles after its start (R109). -/
theorem run_frameEnded (start : InFrame p f 0 s) (noReset : s.NoReset p.frameCycles)
    (ran : core.run p.frameCycles s = .next t) : FrameEnded p t := by
  obtain ⟨last, eq⟩ : ∃ last, p.frameCycles = last + 1 := Nat.exists_eq_add_one.mpr p.frameCycles_pos
  rw [eq] at ran noReset
  obtain ⟨u, rest, stepped⟩ := run_succ_eq_next_last.mp ran
  have before : InFrame p f last u := run_inFrame start (by omega) (fun k early => noReset k (by omega)) rest
  exact before.ends eq.symm (noReset.after rest) stepped

/-- What holds at the start of a frame and is kept by its cycles holds up to the frame end. -/
theorem frame_induction {P : Nat → State → Prop} (start : InFrame p f 0 s) (initially : P 0 s)
    (kept : ∀ n u v, u.port.reset = false → u.params = p → u.busy = true → P n u → step u = .next v → P (n + 1) v)
    (inRange : n ≤ p.frameCycles) (noReset : s.NoReset n) (ran : core.run n s = .next t) : P n t := by
  induction n generalizing t with
  | zero => cases ran; exact initially
  | succ n ih =>
    obtain ⟨u, rest, stepped⟩ := run_succ_eq_next_last.mp ran
    have noResetRest : s.NoReset n := fun k early => noReset k (by omega)
    have sending := run_inFrame start inRange noResetRest rest
    exact kept n u t (noReset.after rest) sending.params sending.busy (ih (by omega) noResetRest rest) stepped

/-! ### The waveform and its end -/

/-- Settles O45: the SEND starts the frame, and each further cycle drives the next level. -/
theorem frameWaveform : Obligations.FrameWaveform := by
  intro s r g b n accepted inRange noReset
  obtain ⟨u, stepped⟩ := step_completes s
  obtain ⟨t, rest⟩ := run_completes n u
  have sending := run_inFrame (inFrame_of_send accepted stepped) inRange (noReset.step stepped) rest
  exact ⟨t, run_succ_eq_next.mpr ⟨u, stepped, rest⟩, sending.busy, sending.encN, sending.ledDout⟩

/-- A SEND's frame has ended 24·T_BIT_CYC cycles after the accepting one (R109). -/
theorem run_frameEnded_of_send (accepted : acceptedInstr s = some (.send r g b))
    (noReset : s.NoReset (s.params.frameCycles + 1)) (ran : core.run (s.params.frameCycles + 1) s = .next t) :
    FrameEnded s.params t := by
  obtain ⟨u, stepped, rest⟩ := run_succ_eq_next.mp ran
  exact run_frameEnded (inFrame_of_send accepted stepped) (noReset.step stepped) rest

/-- Settles O46: the cycle after the frame's last is the frame end. -/
theorem frameEndsOnTime : Obligations.FrameEndsOnTime := by
  intro s sends noReset
  obtain ⟨r, g, b, accepted⟩ := acceptsSend_eq_true.mp sends
  obtain ⟨t, ran⟩ := run_completes (s.params.frameCycles + 1) s
  have ended := run_frameEnded_of_send accepted noReset ran
  exact ⟨t, ran, ended.busy, ended.ledDout, ended.lowrun⟩

/-! ### What a frame holds back -/

/-- From `s` to `t` no tick was serviced and no word accepted, and `t` gives no response (R54, R113). -/
structure HeldSince (s t : State) : Prop where
  ft : t.ft = s.ft
  servoOut : t.servoOut = s.servoOut
  sec : t.sec = s.sec
  frm : t.frm = s.frm
  pending : s.tpend = true → t.tpend = true
  pw : t.pw = s.pw
  tickEn : t.tickEn = s.tickEn
  ill : t.ill = s.ill
  gapv : t.gapv = s.gapv
  rsp : t.rsp = none

theorem HeldSince.trans (first : HeldSince s t) (second : HeldSince t u) : HeldSince s u where
  ft := second.ft.trans first.ft
  servoOut := second.servoOut.trans first.servoOut
  sec := second.sec.trans first.sec
  frm := second.frm.trans first.frm
  pending := second.pending ∘ first.pending
  pw := second.pw.trans first.pw
  tickEn := second.tickEn.trans first.tickEn
  ill := second.ill.trans first.ill
  gapv := second.gapv.trans first.gapv
  rsp := second.rsp

/-- A cycle with BUSY = 1 services no tick and accepts no word (R54, R132). -/
theorem heldSince_step (resetLow : s.port.reset = false) (busy : s.busy = true) (stepped : step s = .next t) :
    HeldSince s t := by
  cases stepped.symm.trans (step_of_busy resetLow busy)
  constructor <;>
    simp +contextual [busy, beforeHost_takePort_ft, beforeHost_takePort_servoOut, beforeHost_takePort_sec,
      beforeHost_takePort_frm]

/-- Settles O47: every cycle of the frame holds, so what the accepting cycle leaves stands until the frame end. -/
theorem frameIsNeverPreempted : Obligations.FrameIsNeverPreempted := by
  intro s r g b n accepted inRange noReset
  have stepped := step_of_send accepted
  have start := inFrame_of_send accepted stepped
  obtain ⟨t, rest⟩ := run_completes n _
  have held : HeldSince _ t := frame_induction start
    (P := fun _ => HeldSince _) ⟨rfl, rfl, rfl, rfl, id, rfl, rfl, rfl, rfl, start.rsp⟩
    (fun _ _ _ resetLow _ busy before steps => before.trans (heldSince_step resetLow busy steps))
    inRange (noReset.step stepped) rest
  refine ⟨t, run_succ_eq_next.mpr ⟨_, stepped, rest⟩, held.ft, held.servoOut, held.sec, held.frm, held.pending, ?_, ?_,
    ?_, held.gapv, held.rsp, fun early => ?_⟩
  · simpa using held.pw
  · simpa using held.tickEn
  · simpa using held.ill
  · have sending := run_inFrame start early (noReset.step stepped) rest
    exact ⟨by simp [acceptedWord, sending.busy], sending.encFrame⟩

/-! ### Ticks during a frame -/

/-- Quotient and remainder of the next number. -/
theorem succ_div_mod {c : Nat} (pos : 0 < c) (x : Nat) :
    (x + 1) / c = x / c + (if x % c = c - 1 then 1 else 0) ∧ (x + 1) % c = if x % c = c - 1 then 0 else x % c + 1 := by
  have digits := Nat.mod_add_div x c
  have inRange := Nat.mod_lt x pos
  rw [Nat.div_mod_unique pos]
  split_ifs with wraps <;>
  · rw [Nat.mul_add]
    omega

/-- What the ticks of `x` cycles leave if none of them is serviced: TPH, the pending tick and the lost ones, where
`lost` tells whether one was lost before (R117). -/
structure TicksCounted (p : Params) (lost : Bool) (x : Nat) (s : State) : Prop where
  params : s.params = p
  tickEn : s.tickEn = true
  tph : s.tph = x % p.tickCyc
  tpend : s.tpend = decide (1 ≤ x / p.tickCyc)
  tovr : s.tovr = (lost || decide (2 ≤ x / p.tickCyc))

/-- Phases 1 to 3 count one more cycle, and the service has left what a frame holds back (R130 to R132). -/
theorem ticksCounted_beforeHost {lost : Bool} {x : Nat} (on : s.tickEn = true) (phase : s.tph = x % s.params.tickCyc)
    (pending : (s.tpend && s.busy) = decide (1 ≤ x / s.params.tickCyc))
    (overrun : s.tovr = (lost || decide (2 ≤ x / s.params.tickCyc))) :
    TicksCounted s.params lost (x + 1) (beforeHost s.takePort) := by
  obtain ⟨quotient, remainder⟩ := succ_div_mod s.params.tick_pos x
  have event : tickEvent s = decide (x % s.params.tickCyc = s.params.tickCyc - 1) := by simp [tickEvent, on, phase]
  constructor
  · simp
  · simpa using on
  · simp only [beforeHost_takePort_tph, on, phase, remainder, if_true]
  · simp only [beforeHost_tpend, takePort_tickEvent, State.takePort_tpend, State.takePort_busy, event, pending,
      quotient]
    split_ifs with wraps <;> simp [wraps]
  · simp only [beforeHost_tovr, takePort_tickEvent, State.takePort_tovr, State.takePort_tpend, State.takePort_busy,
      event, pending, overrun, quotient]
    split_ifs with wraps
    · simp only [wraps, decide_true, Bool.true_and, Bool.or_assoc, ← Bool.decide_or]
      congr 2
      exact propext (by omega)
    · simp [wraps]

/-- The accepting cycle counts the first event of a frame, after the service of a tick that was pending. -/
theorem ticksCounted_of_send (inv : s.Inv) (on : s.tickEn = true) (accepted : acceptedInstr s = some (.send r g b))
    (stepped : step s = .next t) : TicksCounted s.params s.tovr (s.tph + 1) t := by
  obtain ⟨-, phase, -⟩ := inv
  obtain ⟨-, idle, -⟩ := (acceptedInstr_eq_some s).mp accepted
  have fewer : s.tph / s.params.tickCyc = 0 := Nat.div_eq_of_lt phase
  have counted : TicksCounted s.params s.tovr (s.tph + 1) (beforeHost s.takePort) :=
    ticksCounted_beforeHost on (Nat.mod_eq_of_lt phase).symm (by simp [idle, fewer]) (by simp [fewer])
  cases stepped.symm.trans (step_of_send accepted)
  exact ⟨counted.params, counted.tickEn, counted.tph, counted.tpend, counted.tovr⟩

/-- Every cycle of a frame counts (R131). -/
theorem TicksCounted.next {lost : Bool} {x : Nat} (counted : TicksCounted p lost x s)
    (resetLow : s.port.reset = false) (busy : s.busy = true) (stepped : step s = .next t) :
    TicksCounted p lost (x + 1) t := by
  obtain ⟨rfl, on, phase, pending, overrun⟩ := counted
  have after := ticksCounted_beforeHost on phase (by simpa [busy] using pending) overrun
  cases stepped.symm.trans (step_of_busy resetLow busy)
  exact ⟨by simp, by simpa using on, by simpa using after.tph, by simpa using after.tpend, by simpa using after.tovr⟩

/-- With no frame running a cycle services the pending tick, if there is one (R132, R134). -/
theorem step_ft_toNat (inv : s.Inv) (resetLow : s.port.reset = false) (idle : s.busy = false)
    (stepped : step s = .next t) :
    t.ft.toNat = (s.ft.toNat + if s.tpend then 1 else 0) % s.params.frameLen := by
  obtain ⟨inRange, -⟩ := inv
  rw [step_ft resetLow stepped, beforeHost_takePort_ft, idle]
  cases s.tpend with
  | true => simpa using nextTick_toNat s.params s.ft inRange
  | false => simpa using (Nat.mod_eq_of_lt inRange).symm

/-- Settles O48: from the accepting cycle to the frame end TPH has advanced by 24·T_BIT_CYC + 1 cycles with no service
in between; the next cycle runs it. -/
theorem ticksDuringFrame : Obligations.TicksDuringFrame := by
  intro s inv sends on noReset
  obtain ⟨r, g, b, accepted⟩ := acceptsSend_eq_true.mp sends
  have noResetFrame : s.NoReset (s.params.frameCycles + 1) := fun k early => noReset k (by omega)
  obtain ⟨first, started⟩ := step_completes s
  obtain ⟨t, rest⟩ := run_completes s.params.frameCycles first
  obtain ⟨u, serviced⟩ := step_completes t
  have ran : core.run (s.params.frameCycles + 1) s = .next t := run_succ_eq_next.mpr ⟨first, started, rest⟩
  have ended := run_frameEnded_of_send accepted noResetFrame ran
  have counted : TicksCounted s.params s.tovr (s.tph + 1 + s.params.frameCycles) t :=
    frame_induction (inFrame_of_send accepted started)
      (P := fun n => TicksCounted s.params s.tovr (s.tph + 1 + n)) (ticksCounted_of_send inv on accepted started)
      (fun _ _ _ resetLow _ busy before steps => before.next resetLow busy steps)
      le_rfl (noResetFrame.step started) rest
  rw [Nat.add_right_comm] at counted
  refine ⟨t, u, ran, serviced, counted.tpend, counted.tovr, ?_⟩
  rw [← ended.params]
  exact step_ft_toNat (run_keeps_inv inv ran) (noReset.after ran) ended.busy serviced

/-! ### The gap after a frame -/

/-- Settles O50: each cycle without a SEND counts one low cycle. -/
theorem lowrunCountsGap : Obligations.LowrunCountsGap := by
  intro n
  induction n with
  | zero =>
    intro s idle low inRange _ _
    exact ⟨s, rfl, idle, low, (min_eq_left inRange).symm⟩
  | succ n ih =>
    intro s idle low inRange noReset noSend
    obtain ⟨u, stepped⟩ := step_completes s
    have resetLow : s.port.reset = false := portAt_zero s ▸ noReset 0 (by omega)
    have declined := acceptsSend_of_offersAt_false (noSend 0 (by omega) le_rfl)
    obtain ⟨v, same, rfl⟩ := step_of_idle resetLow idle declined stepped
    obtain ⟨t, rest, idleThen, lowThen, counted⟩ := ih (countLow v) (same.busy.trans idle) (same.ledDout.trans low)
      (min_le_right _ _) (noReset.step stepped) (noSend.step stepped)
    refine ⟨t, run_succ_eq_next.mpr ⟨_, stepped, rest⟩, idleThen, lowThen, ?_⟩
    rw [counted, countLow_lowrun, countLow_params, same.lowrun, same.params]
    omega

end Sys2Proof.Machine

/-! PROOF. What has no effect on what: nothing outside the encoder bears on LED_DOUT (R105, R112), and colours bear on
nothing but the latch and the line (R105, R114). -/

namespace Sys2Proof.Machine

open Config

variable {s t s' t' : State}

/-! ### The line depends on the encoder alone -/

/-- Under RESET every element takes its reset value (R210). -/
theorem step_of_reset (reset : s.port.reset = true) : step s = .next s.takePort.applyReset := by
  simp [step, cycle, reset]

/-- No command writes the parameters (R214). -/
theorem exec_params {i : Instr} (ran : exec i s = .next t) : t.params = s.params := by
  cases i with
  | send r g b =>
    rw [sendStartsFrame] at ran
    cases ran
    rfl
  | wrCtrl e => exact (exec_encoderUntouched rfl ran).params
  | nop | wrPw v | rdStatus | rdFt | rdPw | rdCtrl | rdSec => exact (exec_encoderUntouched rfl ran).params

/-- No step writes the parameters (R214). -/
theorem step_params (stepped : step s = .next t) : t.params = s.params := by
  cases reset : s.port.reset with
  | true =>
    cases stepped.symm.trans (step_of_reset reset)
    simp
  | false =>
    have kept : t.params = (beforeHost s.takePort).params :=
      step_keeps_field (field := State.params) (fun _ _ _ _ ran => exec_params ran) (fun _ => rfl)
        (fun b u => phase5Encoder_params u b) reset stepped
    simpa using kept

theorem acceptedInstr_congr (inputs : s.inputs = t.inputs) (busy : s.busy = t.busy) :
    acceptedInstr s = acceptedInstr t := by
  have word : acceptedWord s = acceptedWord t := by
    unfold acceptedWord State.port
    rw [inputs, busy]
  rw [acceptedInstr, word, acceptedInstr]

/-- States that the encoder cannot tell apart lead to such states, since it reads only its own registers and the
accepted command (R100, R108 to R110). -/
theorem State.SameEncoder.step (same : s.SameEncoder t) (stepped : step s = .next s') (stepped' : step t = .next t') :
    s'.SameEncoder t' := by
  obtain ⟨params, busy, encN, encFrame, ledDout, inputs⟩ := same
  have samePort : s.port = t.port := by rw [State.port, inputs, State.port]
  have sameAccepted := acceptedInstr_congr inputs busy
  have sameSend : acceptsSend s = acceptsSend t := by rw [acceptsSend, sameAccepted, acceptsSend]
  suffices encoder : s'.busy = t'.busy ∧ s'.encN = t'.encN ∧ s'.encFrame = t'.encFrame ∧ s'.ledDout = t'.ledDout by
    obtain ⟨busy', encN', encFrame', ledDout'⟩ := encoder
    refine ⟨?_, busy', encN', encFrame', ledDout', ?_⟩
    · rw [step_params stepped, step_params stepped', params]
    · rw [step_inputs stepped, step_inputs stepped', inputs]
  cases reset : s.port.reset with
  | true =>
    cases stepped.symm.trans (step_of_reset reset)
    cases stepped'.symm.trans (step_of_reset (samePort ▸ reset))
    simp
  | false =>
    obtain ⟨sends, latch, last, notLast, between⟩ := encoderNext s s' reset stepped
    obtain ⟨sends', latch', last', notLast', between'⟩ := encoderNext t t' (samePort ▸ reset) stepped'
    simp only [← sameAccepted, ← sameSend, ← busy, ← params, ← encN, ← encFrame, ← ledDout]
      at sends' latch' last' notLast' between'
    cases send : acceptsSend s with
    | true =>
      obtain ⟨r, g, b, accepted⟩ := acceptsSend_eq_true.mp send
      simp [sends r g b accepted, sends' r g b accepted]
    | false =>
      rw [latch send, latch' send]
      cases sending : s.busy with
      | true =>
        by_cases atLast : s.encN + 1 = s.params.frameCycles
        · simp [last sending atLast, last' sending atLast]
        · simp [notLast sending atLast, notLast' sending atLast]
      | false => simp [between sending send, between' sending send]

/-- A LED trace of one cycle more is the line after the step and then the trace. -/
theorem ledTrace_succ (n : Nat) (stepped : step s = .next t) : ledTrace (n + 1) s = t.ledDout :: ledTrace n t := by
  simp only [ledTrace, trace, stepped, List.map_cons]
  rfl

/-- Settles O53: the two runs stay alike to the encoder, and the line is one of its registers. -/
theorem ledIndependentOfServo : Obligations.LedIndependentOfServo := by
  intro n
  induction n with
  | zero => exact fun _ _ _ => rfl
  | succ n ih =>
    intro s t same
    obtain ⟨s', stepped⟩ := step_completes s
    obtain ⟨t', stepped'⟩ := step_completes t
    have same' := same.step stepped stepped'
    have ⟨_, _, _, _, line, _⟩ := same'
    rw [ledTrace_succ n stepped, ledTrace_succ n stepped', line, ih s' t' same']

/-! ### Nothing else depends on the colour -/

/-- `s` with another latched frame, another level on the line and other inputs: all that a colour bears on. -/
def State.recolour (s : State) (f : Frame) (led : Bool) (inputs : List PortInput) : State :=
  { s with encFrame := f, ledDout := led, inputs := inputs }

variable {f : Frame} {led : Bool} {inputs : List PortInput}

/-- Two states differ in colours only if one is the other recoloured, with inputs that differ in colours only. -/
theorem eraseColour_eq_iff : s.eraseColour = t.eraseColour ↔
    ∃ f led inputs, t = s.recolour f led inputs ∧ s.inputs.map erasePort = inputs.map erasePort := by
  constructor
  · intro same
    refine ⟨t.encFrame, t.ledDout, t.inputs, ?_, congrArg State.inputs same⟩
    calc t = t.eraseColour.recolour t.encFrame t.ledDout t.inputs := rfl
      _ = s.eraseColour.recolour t.encFrame t.ledDout t.inputs := by rw [same]
      _ = s.recolour t.encFrame t.ledDout t.inputs := rfl
  · rintro ⟨f, led, inputs, rfl, sameInputs⟩
    simp only [State.eraseColour, State.recolour, sameInputs]

@[simp] theorem recolour_params : (s.recolour f led inputs).params = s.params := rfl
@[simp] theorem recolour_busy : (s.recolour f led inputs).busy = s.busy := rfl
@[simp] theorem recolour_encN : (s.recolour f led inputs).encN = s.encN := rfl
@[simp] theorem recolour_takePort : (s.recolour f led inputs).takePort = s.takePort.recolour f led inputs.tail := rfl

/-! Commands with their colour blotted out -/

/-- A command with its colour blotted out. -/
def eraseInstr (i : Instr) : Instr := if startsFrame i then .send 0#8 0#8 0#8 else i

/-- The decoder reads the blotted word as the blotted command, and rejects it as before. -/
theorem decode_eraseWord (w : Word) : decode (eraseWord w) = (decode w).map eraseInstr := by
  unfold eraseWord
  cases decodes : decode w with
  | error e => exact decodes
  | ok i =>
    simp only [Except.map, eraseInstr]
    split
    · exact (decodeGivesBackEncoded _).2
    · exact decodes

/-- Commands that differ in colours only are the same command or two SENDs. -/
theorem eraseInstr_eq {i j : Instr} (same : eraseInstr i = eraseInstr j) :
    (startsFrame i = false ∧ j = i) ∨ ∃ r g b r' g' b', i = .send r g b ∧ j = .send r' g' b' := by
  cases hi : startsFrame i <;> cases hj : startsFrame j <;> simp only [eraseInstr, hi, hj] at same
  · exact .inl ⟨rfl, same.symm⟩
  · subst same; cases hi
  · subst same; cases hj
  · obtain ⟨r, g, b, rfl⟩ := startsFrame_eq_true.mp hi
    obtain ⟨r', g', b', rfl⟩ := startsFrame_eq_true.mp hj
    exact .inr ⟨r, g, b, r', g', b', rfl, rfl⟩

/-! The phases on a recoloured state: none of the first three looks at a colour -/

theorem frameComplete_recolour : frameComplete (s.recolour f led inputs) = (frameComplete s).recolour f led inputs := by
  unfold frameComplete
  rw [apply_ite (State.recolour · f led inputs)]
  rfl

theorem tickService_recolour : tickService (s.recolour f led inputs) = (tickService s).recolour f led inputs := by
  unfold tickService
  rw [apply_ite (State.recolour · f led inputs), ← frameComplete_recolour]
  rfl

theorem beforeHost_recolour : beforeHost (s.recolour f led inputs) = (beforeHost s).recolour f led inputs := by
  have phase1 : (phase1Source (s.recolour f led inputs)).2 = (phase1Source s).2.recolour f led inputs := by
    rw [phase1Source_snd, phase1Source_tph, phase1Source_snd s, phase1Source_tph]
    rfl
  have phase2 (u : State) : phase2Service (u.recolour f led inputs) = (phase2Service u).recolour f led inputs := by
    unfold phase2Service
    rw [apply_ite (State.recolour · f led inputs), ← tickService_recolour]
    rfl
  have phase3 (ev : Bool) (u : State) :
      phase3Pend ev (u.recolour f led inputs) = (phase3Pend ev u).recolour f led inputs := by
    unfold phase3Pend
    rw [apply_ite (State.recolour · f led inputs), apply_ite (State.recolour · f led inputs)]
    rfl
  rw [beforeHost_eq, phase1, phase2, phase3, beforeHost_eq]
  rfl

/-- A command that is no SEND does the same to a recoloured state. -/
theorem exec_recolour {i : Instr} (notSend : startsFrame i = false) (ran : exec i s = .next t) :
    exec i (s.recolour f led inputs) = .next (t.recolour f led inputs) := by
  cases i with
  | send r g b => cases notSend
  | wrCtrl e => cases ran; cases e <;> rfl
  | nop | wrPw v | rdStatus | rdFt | rdPw | rdCtrl | rdSec => cases ran; rfl

/-- A SEND of another colour does the same to a recoloured state, but for its own colour. -/
theorem exec_send_recolour (r g b r' g' b' : Channel) (ran : exec (.send r g b) s = .next t) :
    exec (.send r' g' b') (s.recolour f led inputs) = .next (t.recolour (g' ++ r' ++ b') true inputs) := by
  rw [sendStartsFrame] at ran
  rw [sendStartsFrame]
  cases ran
  rfl

/-- Phase 4 does the same to a recoloured state, for words that differ in colours only. -/
theorem phase4Host_recolour {cmd cmd' : Option Word} (same : cmd.map eraseWord = cmd'.map eraseWord) :
    ∃ u started f' led', phase4Host cmd s = .next (u, started) ∧
      phase4Host cmd' (s.recolour f led inputs) = .next (u.recolour f' led' inputs, started) := by
  unfold phase4Host
  cases busy : s.busy with
  | true => exact ⟨s, false, f, led, by simp [busy]⟩
  | false =>
    rcases cmd with _ | w <;> rcases cmd' with _ | w'
    · exact ⟨s, false, f, led, by simp [busy]⟩
    · cases same
    · cases same
    · have decoded : (decode w).map eraseInstr = (decode w').map eraseInstr := by
        rw [← decode_eraseWord, ← decode_eraseWord, Option.some.inj same]
      cases hw : decode w <;> cases hw' : decode w' <;> simp only [hw, hw', Except.map, reduceCtorEq] at decoded
      case error.error => exact ⟨execIllegal s, false, f, led, by simp [busy, hw, hw']; rfl⟩
      case ok.ok i j =>
        obtain ⟨t, ran⟩ := exec_completes i s
        rcases eraseInstr_eq (Except.ok.inj decoded) with ⟨notSend, rfl⟩ | ⟨r, g, b, r', g', b', rfl, rfl⟩
        · exact ⟨t, startsFrame j, f, led, by simp [busy, hw, hw', ran, exec_recolour notSend ran, withStarted]⟩
        · exact ⟨t, true, g' ++ r' ++ b', true,
            by simp [busy, hw, hw', ran, exec_send_recolour r g b r' g' b' ran, withStarted, startsFrame]⟩

/-- Phase 5 does the same to a recoloured state, but for the level it drives. -/
theorem phase5Encoder_recolour (started : Bool) : ∃ led',
    phase5Encoder started (s.recolour f led inputs) = (phase5Encoder started s).recolour f led' inputs := by
  rcases phase5Encoder_cases s started with
    ⟨rfl, same⟩ | ⟨rfl, busy, last, ends⟩ | ⟨rfl, busy, notLast, advances⟩ | ⟨rfl, idle, counts⟩
  · exact ⟨led, rfl⟩
  · exact ⟨false, by simp [phase5Encoder, busy, last]; rfl⟩
  · exact ⟨level s.params f (s.encN + 1), by simp [phase5Encoder, busy, notLast]; rfl⟩
  · exact ⟨led, by simp [phase5Encoder, idle]; rfl⟩

/-- Without reset a step is its phases (R50). -/
theorem step_of_not_reset (resetLow : s.port.reset = false) :
    step s = afterHost (phase4Host s.port.cmd (beforeHost s.takePort)) := by
  simp [step, cycle, resetLow]

/-- Inputs that differ in colours only drive the same in the coming cycle, but for a colour. -/
theorem erasePort_port (sameInputs : s.inputs.map erasePort = t.inputs.map erasePort) :
    erasePort s.port = erasePort t.port := by
  have head (l : List PortInput) : erasePort (l.headD PortInput.idle) = (l.map erasePort).headD PortInput.idle := by
    cases l <;> rfl
  rw [State.port, State.port, head, sameInputs, head]

/-- A step does the same to a recoloured state, but for colours. -/
theorem step_recolour (sameInputs : s.inputs.map erasePort = inputs.map erasePort) :
    ∃ s' f' led', step s = .next s' ∧
      step (s.recolour f led inputs) = .next (s'.recolour f' led' inputs.tail) := by
  have samePort : erasePort s.port = erasePort (s.recolour f led inputs).port := erasePort_port sameInputs
  have sameReset : s.port.reset = (s.recolour f led inputs).port.reset :=
    (congrArg PortInput.reset samePort :)
  have sameCmd : s.port.cmd.map eraseWord = (s.recolour f led inputs).port.cmd.map eraseWord :=
    (congrArg PortInput.cmd samePort :)
  cases reset : s.port.reset with
  | true => exact ⟨_, 0#24, false, step_of_reset reset, step_of_reset (sameReset ▸ reset)⟩
  | false =>
    obtain ⟨u, started, f', ledU, host, host'⟩ := phase4Host_recolour (s := beforeHost s.takePort) (f := f) (led := led)
      (inputs := inputs.tail) sameCmd
    obtain ⟨led', encoder⟩ := phase5Encoder_recolour (s := u) (f := f') (led := ledU) (inputs := inputs.tail) started
    refine ⟨phase5Encoder started u, f', led', ?_, ?_⟩
    · rw [step_of_not_reset reset, host]
      rfl
    · rw [step_of_not_reset (sameReset ▸ reset), recolour_takePort, beforeHost_recolour, host', ← encoder]
      rfl

/-- Settles O54: in each cycle the two runs do the same but for colours. -/
theorem timingIndependentOfColour : Obligations.TimingIndependentOfColour := by
  intro n
  induction n with
  | zero =>
    intro s t s' t' same ran ran'
    cases ran
    cases ran'
    exact same
  | succ n ih =>
    intro s t s' t' same ran ran'
    obtain ⟨f, led, inputs, rfl, sameInputs⟩ := eraseColour_eq_iff.mp same
    obtain ⟨u, f', led', stepped, stepped'⟩ := step_recolour sameInputs
    obtain ⟨v, first, rest⟩ := run_succ_eq_next.mp ran
    obtain ⟨v', first', rest'⟩ := run_succ_eq_next.mp ran'
    cases stepped.symm.trans first
    cases stepped'.symm.trans first'
    refine ih _ _ s' t' (eraseColour_eq_iff.mpr ⟨f', led', inputs.tail, rfl, ?_⟩) rest rest'
    rw [step_inputs stepped, List.map_tail, sameInputs, List.map_tail]

end Sys2Proof.Machine

/-! PROOF. The waveform of a frame bit by bit (R103, R104, R116), and what the reference decoder of R118 reads off it:
the runs of the line, the segment between two separators, and its colour. -/

namespace Sys2Proof.Machine

open Config

variable {p : Params} {f : Frame} {m n : Nat} {b : Bool} {bs l : List Bool}

/-! ### The waveform bit by bit -/

/-- Cycle `c` of bit `k` of a frame (R103, R104). -/
theorem level_of_bit {k c : Nat} (inFrame : k < 24) (inBit : c < p.tBitCyc) :
    level p f (k * p.tBitCyc + c) = decide (c < highTime p (frameBit f k)) := by
  have inRange : k * p.tBitCyc + c < p.frameCycles := by
    rw [p.frameCycles_eq]
    calc k * p.tBitCyc + c < (k + 1) * p.tBitCyc := by rw [Nat.add_one_mul]; omega
      _ ≤ 24 * p.tBitCyc := Nat.mul_le_mul_right _ inFrame
  obtain ⟨quotient, remainder⟩ : (k * p.tBitCyc + c) / p.tBitCyc = k ∧ (k * p.tBitCyc + c) % p.tBitCyc = c :=
    (Nat.div_mod_unique p.tBit_pos).mpr ⟨by rw [Nat.mul_comm, Nat.add_comm], inBit⟩
  rw [level_of_lt inRange, quotient, remainder]

/-- Settles O43: a cycle of the frame is a bit and a cycle of it. -/
theorem levelWithinBit : Obligations.LevelWithinBit := fun _ _ _ _ inFrame inBit => level_of_bit inFrame inBit

/-- The waveform of one bit: high for its high time and low for the rest (R104). -/
def bitWave (p : Params) (b : Bool) : List Bool :=
  List.replicate (highTime p b) true ++ List.replicate (p.tBitCyc - highTime p b) false

theorem bitWave_eq_map (p : Params) (b : Bool) :
    bitWave p b = (List.range p.tBitCyc).map (fun c => decide (c < highTime p b)) := by
  have lowAfter := highTime_lt_tBit p b
  apply List.ext_getElem
  · simp [bitWave]
    omega
  · intro c _ _
    simp [bitWave, List.getElem_append]

/-- A list over the product of two ranges, row by row. -/
theorem map_range_mul {α : Type} (rows width : Nat) (v : Nat → α) :
    (List.range (rows * width)).map v =
      (List.range rows).flatMap (fun k => (List.range width).map (fun c => v (k * width + c))) := by
  induction rows with
  | zero => simp
  | succ rows ih =>
    rw [Nat.add_one_mul, List.range_add, List.map_append, ih, List.range_succ, List.flatMap_append]
    simp

/-- The waveform of a frame is that of its bits, FRAME[23] first (R102, R103). -/
theorem frameWave_eq_flatMap (p : Params) (f : Frame) : frameWave p f = (frameBitList f).flatMap (bitWave p) := by
  rw [frameWave, p.frameCycles_eq, map_range_mul, frameBitList, List.flatMap_map]
  refine List.flatMap_congr fun k inFrame => ?_
  rw [bitWave_eq_map]
  refine List.map_congr_left fun c inBit => ?_
  exact level_of_bit (List.mem_range.mp inFrame) (List.mem_range.mp inBit)

/-! ### The number of high cycles -/

theorem count_bitWave (p : Params) (b : Bool) : (bitWave p b).count true = highTime p b := by
  simp [bitWave, List.count_replicate]

/-- The high cycles of a list of bits: T0H_CYC for each, and the difference to T1H_CYC for each 1. -/
theorem count_flatMap_bitWave (p : Params) (bs : List Bool) :
    (bs.flatMap (bitWave p)).count true = bs.length * p.t0hCyc + bs.count true * (p.t1hCyc - p.t0hCyc) := by
  have longer := p.t0h_lt_t1h
  induction bs with
  | nil => simp
  | cons b bs ih =>
    rw [List.flatMap_cons, List.count_append, ih, count_bitWave]
    cases b with
    | false => simp [highTime, Nat.add_one_mul]; omega
    | true => simp [highTime, Nat.add_one_mul]; omega

/-- The order of its bits does not matter to the number of 1s in a frame. -/
theorem count_frameBitList (f : Frame) :
    (frameBitList f).count true = (List.range 24).countP (fun k => f.getLsbD k) := by
  have reversed : (List.range 24).map (fun k => 23 - k) = (List.range 24).reverse := by decide
  calc (frameBitList f).count true
      = (((List.range 24).map (fun k => 23 - k)).map f.getLsbD).count true := by rw [List.map_map]; rfl
    _ = ((List.range 24).map f.getLsbD).count true := by rw [reversed, List.map_reverse, List.count_reverse]
    _ = (List.range 24).countP (fun k => f.getLsbD k) := by
      rw [List.count, List.countP_map]
      congr 1
      funext k
      simp

/-- Settles O44: the high cycles are counted bit by bit. -/
theorem highCyclesOfFrame : Obligations.HighCyclesOfFrame := by
  intro p f
  rw [frameWave_eq_flatMap, count_flatMap_bitWave, count_frameBitList]
  simp [frameBitList]

/-! ### The runs of the line -/

/-- A sequence that begins with a level has a first run of that level. -/
theorem wireRuns_cons (b : Bool) (l : List Bool) : ∃ n rs, wireRuns (b :: l) = ⟨b, n⟩ :: rs := by
  rw [wireRuns]
  cases wireRuns l with
  | nil => exact ⟨1, [], rfl⟩
  | cons r rs =>
    simp only [consRun]
    split <;> exact ⟨_, _, rfl⟩

/-- A block of one level before a sequence that does not begin with it is one run. -/
theorem wireRuns_replicate_append (positive : 0 < n) (other : l.head? ≠ some b) :
    wireRuns (List.replicate n b ++ l) = ⟨b, n⟩ :: wireRuns l := by
  induction n, positive using Nat.le_induction with
  | base =>
    cases l with
    | nil => rfl
    | cons c l =>
      obtain ⟨k, rs, runs⟩ := wireRuns_cons c l
      have differ : c ≠ b := fun same => other (by rw [same]; rfl)
      rw [List.replicate_one, List.singleton_append, wireRuns, runs, consRun, if_neg differ]
  | succ n _ ih => rw [List.replicate_succ, List.cons_append, wireRuns, ih, consRun, if_pos rfl]

/-- The two runs of a bit. -/
def bitRuns (p : Params) (b : Bool) : List WireRun := [⟨true, highTime p b⟩, ⟨false, p.tBitCyc - highTime p b⟩]

/-- A bit is two runs, where the line goes high again after it. -/
theorem wireRuns_bitWave_append (rises : l.head? = some true) :
    wireRuns (bitWave p b ++ l) = bitRuns p b ++ wireRuns l := by
  have low : 0 < p.tBitCyc - highTime p b := Nat.sub_pos_of_lt (highTime_lt_tBit p b)
  rw [bitWave, List.append_assoc, wireRuns_replicate_append (highTime_pos p b),
    wireRuns_replicate_append low (by simp [rises])]
  · rfl
  · simp [List.head?_append, List.head?_replicate, low.ne']

/-- Bits begin high. -/
theorem head?_bitWave_append (p : Params) (b : Bool) (l : List Bool) : (bitWave p b ++ l).head? = some true := by
  simp [bitWave, List.head?_append, List.head?_replicate, (highTime_pos p b).ne']

theorem wireRuns_flatMap_bitWave_append (rises : l.head? = some true) :
    wireRuns (bs.flatMap (bitWave p) ++ l) = bs.flatMap (bitRuns p) ++ wireRuns l := by
  induction bs with
  | nil => rfl
  | cons b bs ih =>
    have risesAgain : (bs.flatMap (bitWave p) ++ l).head? = some true := by
      cases bs with
      | nil => exact rises
      | cons c bs => rw [List.flatMap_cons, List.append_assoc, head?_bitWave_append]
    rw [List.flatMap_cons, List.append_assoc, wireRuns_bitWave_append risesAgain, ih, List.flatMap_cons,
      List.append_assoc]

/-- The low time of the last bit runs on into the gap after it. -/
theorem wireRuns_bitWave_gap (p : Params) (b : Bool) (n : Nat) : wireRuns (bitWave p b ++ List.replicate n false) =
    [⟨true, highTime p b⟩, ⟨false, p.tBitCyc - highTime p b + n⟩] := by
  have low : 0 < p.tBitCyc - highTime p b + n := Nat.add_pos_left (Nat.sub_pos_of_lt (highTime_lt_tBit p b)) n
  have gap := wireRuns_replicate_append (b := false) (l := []) low (by simp)
  rw [List.append_nil] at gap
  rw [bitWave, List.append_assoc, List.replicate_append_replicate, wireRuns_replicate_append (highTime_pos p b), gap]
  · rfl
  · simp [List.head?_replicate]

/-- The runs of a line that is low for `m` cycles, sends bits and stays low for `n` cycles. -/
theorem wireRuns_bits (p : Params) (bs : List Bool) (b : Bool) (n : Nat) (positive : 0 < m) :
    wireRuns (List.replicate m false ++ (bs ++ [b]).flatMap (bitWave p) ++ List.replicate n false) =
      ⟨false, m⟩ :: (bs.flatMap (bitRuns p) ++
        [⟨true, highTime p b⟩, ⟨false, p.tBitCyc - highTime p b + n⟩]) := by
  have last := head?_bitWave_append p b (List.replicate n false)
  have bits := wireRuns_flatMap_bitWave_append (p := p) (bs := bs) last
  rw [wireRuns_bitWave_gap] at bits
  rw [← bits, List.flatMap_append, List.flatMap_singleton, List.append_assoc, List.append_assoc]
  refine wireRuns_replicate_append positive ?_
  cases bs with
  | nil => simp [last]
  | cons c bs => rw [List.flatMap_cons, List.append_assoc, head?_bitWave_append]; simp

/-! ### Segments -/

/-- What the reference decoder yields for the runs after a separator (R118). -/
def decodeRuns (p : Params) (rs : List WireRun) : List WireFrame :=
  ((cutSegments p false [] rs).filter (fun g => g.runs.any WireRun.level)).map (decodeSegment p)

/-- A sequence that begins with a separator yields what comes after it. -/
theorem decodeWire_of_separator {rs : List WireRun} (runs : wireRuns l = ⟨false, n⟩ :: rs)
    (long : p.tResetCyc ≤ n) : decodeWire p l = decodeRuns p rs := by
  simp [decodeWire, runs, cutSegments, isSeparator, long, decodeRuns]

theorem decodeRuns_nil (p : Params) : decodeRuns p [] = [] := rfl

/-- Runs that are no separators join the current segment. -/
theorem cutSegments_append (atStart : Bool) {xs : List WireRun} (inside : ∀ r ∈ xs, isSeparator p r = false)
    (rev rs : List WireRun) :
    cutSegments p atStart rev (xs ++ rs) = cutSegments p atStart (xs.reverse ++ rev) rs := by
  induction xs generalizing rev with
  | nil => rfl
  | cons r xs ih =>
    obtain ⟨first, others⟩ := List.forall_mem_cons.mp inside
    simp [cutSegments, first, ih others]

/-- The runs up to the next separator are one segment. -/
theorem decodeRuns_segment {xs : List WireRun} (inside : ∀ r ∈ xs, isSeparator p r = false)
    (high : xs.any WireRun.level = true) (long : p.tResetCyc ≤ n) (rs : List WireRun) :
    decodeRuns p (xs ++ ⟨false, n⟩ :: rs) = decodeSegment p ⟨false, xs, some n⟩ :: decodeRuns p rs := by
  simp only [decodeRuns, cutSegments_append false inside]
  simp [cutSegments, isSeparator, long, high]

theorem bitOfHigh_highTime (p : Params) (b : Bool) : bitOfHigh p (highTime p b) = some b := by
  have differ := p.t0h_lt_t1h.ne
  cases b <;> simp [bitOfHigh, highTime, differ]

/-- The bits of a segment whose last bit has its whole low time in the separator. -/
theorem segmentBits_bitRuns (bs : List Bool) (lastLow : p.tBitCyc ≤ highTime p b + n) :
    segmentBits p (some n) (bs.flatMap (bitRuns p) ++ [⟨true, highTime p b⟩]) = some (bs ++ [b]) := by
  induction bs with
  | nil => simp [segmentBits, lastLowOk, lastLow, bitOfHigh_highTime]
  | cons c bs ih =>
    have period : highTime p c + (p.tBitCyc - highTime p c) = p.tBitCyc :=
      Nat.add_sub_cancel' (highTime_lt_tBit p c).le
    obtain ⟨r, rs, rest⟩ : ∃ r rs, bs.flatMap (bitRuns p) ++ [⟨true, highTime p b⟩] = r :: rs :=
      List.exists_cons_of_ne_nil (by simp)
    rw [List.flatMap_cons, List.append_assoc, rest, bitRuns]
    rw [rest] at ih
    simp [segmentBits, period, bitOfHigh_highTime, ih]

theorem decodeSegment_bitRuns (bs : List Bool) (lastLow : p.tBitCyc ≤ highTime p b + n) :
    decodeSegment p ⟨false, bs.flatMap (bitRuns p) ++ [⟨true, highTime p b⟩], some n⟩ = .bits (bs ++ [b]) := by
  simp [decodeSegment, segmentBits_bitRuns bs lastLow]

/-- The low time that is left of a bit and a gap of at least T_RESET_CYC after it. -/
theorem lastLow_of_gap (p : Params) (b : Bool) (n : Nat) :
    p.tBitCyc ≤ highTime p b + (p.tBitCyc - highTime p b + n) := by
  omega

/-! ### The round trip of the waveform -/

/-- Bits whose low times are too short for a separator are one segment. -/
theorem decodeWire_bits (bs : List Bool) (b : Bool) (short : p.tBitCyc < p.t0hCyc + p.tResetCyc) :
    decodeWire p (List.replicate p.tResetCyc false ++ (bs ++ [b]).flatMap (bitWave p) ++
      List.replicate p.tResetCyc false) = [.bits (bs ++ [b])] := by
  have inside : ∀ r ∈ bs.flatMap (bitRuns p) ++ [⟨true, highTime p b⟩], isSeparator p r = false := by
    intro r mem
    have lowest (c : Bool) : p.t0hCyc ≤ highTime p c := by have := p.t0h_lt_t1h; cases c <;> simp [highTime]; omega
    simp only [List.mem_append, List.mem_flatMap, bitRuns, List.mem_cons, List.not_mem_nil, or_false] at mem
    rcases mem with ⟨c, -, rfl | rfl⟩ | rfl
    · rfl
    · have := lowest c
      have := p.tReset_pos
      simp [isSeparator]
      omega
    · rfl
  rw [decodeWire_of_separator (wireRuns_bits p bs b _ p.tReset_pos) le_rfl, List.append_cons,
    decodeRuns_segment inside (by simp) (Nat.le_add_left _ _), decodeRuns_nil,
    decodeSegment_bitRuns bs (lastLow_of_gap p b _)]

/-- Bits whose low times are separators are a segment each. -/
theorem decodeRuns_split (bs : List Bool) (b : Bool) (long : ∀ c ∈ bs, p.tResetCyc ≤ p.tBitCyc - highTime p c)
    (gap : p.tResetCyc ≤ n) :
    decodeRuns p (bs.flatMap (bitRuns p) ++ [⟨true, highTime p b⟩, ⟨false, p.tBitCyc - highTime p b + n⟩]) =
      (bs ++ [b]).map (fun c => .bits [c]) := by
  have oneBit (c : Bool) (k : Nat) (rs : List WireRun) (sep : p.tResetCyc ≤ k) (low : p.tBitCyc ≤ highTime p c + k) :
      decodeRuns p (⟨true, highTime p c⟩ :: ⟨false, k⟩ :: rs) = .bits [c] :: decodeRuns p rs := by
    have segment := decodeRuns_segment (p := p) (xs := [⟨true, highTime p c⟩]) (by simp [isSeparator]) rfl sep rs
    exact segment.trans (congrArg (· :: decodeRuns p rs) (decodeSegment_bitRuns [] low))
  induction bs with
  | nil => exact oneBit b _ [] (gap.trans (Nat.le_add_left _ _)) (lastLow_of_gap p b n)
  | cons c bs ih =>
    obtain ⟨first, others⟩ := List.forall_mem_cons.mp long
    rw [List.flatMap_cons, bitRuns, List.append_assoc]
    exact (oneBit c _ _ first (lastLow_of_gap p c 0)).trans (congrArg _ (ih others))

/-- The bits of a frame, the last one apart. -/
theorem frameBitList_eq_append (f : Frame) :
    frameBitList f = (List.range 23).map (frameBit f) ++ [frameBit f 23] := by
  rw [frameBitList, List.range_succ, List.map_append]
  rfl

/-- Settles O55: no low time inside the frame is a separator, so its bits are one segment. -/
theorem referenceDecoderReadsWaveform : Obligations.ReferenceDecoderReadsWaveform := by
  intro p f short
  rw [frameWave_eq_flatMap, frameBitList_eq_append, decodeWire_bits _ _ short, ← frameBitList_eq_append]
  rfl

/-- Settles O56: every low time inside the black frame is a separator. -/
theorem shortResetThresholdSplitsFrame : Obligations.ShortResetThresholdSplitsFrame := by
  intro p long
  have black : frameBitList 0#24 = List.replicate 23 false ++ [false] := by decide
  rw [frameWave_eq_flatMap, black, decodeWire_of_separator (wireRuns_bits p _ _ _ p.tReset_pos) le_rfl,
    decodeRuns_split _ _ ?_ le_rfl]
  · rfl
  · intro c mem
    rw [List.eq_of_mem_replicate mem]
    simp [highTime]
    omega

/-! ### The colour of the bits -/

/-- The bits of a word, most significant first. -/
def msbFirst {w : Nat} (v : BitVec w) : List Bool := (List.range w).map (fun k => v.getLsbD (w - 1 - k))

theorem natOfBits_concat (bs : List Bool) (b : Bool) : natOfBits (bs ++ [b]) = 2 * natOfBits bs + b.toNat := by
  simp [natOfBits]

/-- The bits of a number below `2 ^ w`, most significant first, give it back. -/
theorem natOfBits_testBit (w x : Nat) :
    natOfBits ((List.range w).map (fun k => x.testBit (w - 1 - k))) = x % 2 ^ w := by
  induction w generalizing x with
  | zero => simp [natOfBits, Nat.mod_one]
  | succ w ih =>
    have upper : (List.range w).map (fun k => x.testBit (w + 1 - 1 - k)) =
        (List.range w).map (fun k => (x / 2).testBit (w - 1 - k)) := by
      refine List.map_congr_left fun k mem => ?_
      have inRange := List.mem_range.mp mem
      rw [Nat.testBit_div_two]
      congr 1
      omega
    rw [List.range_succ, List.map_append, upper, List.map_singleton, natOfBits_concat, ih, Nat.pow_succ',
      Nat.mod_mul, Nat.add_sub_cancel, Nat.sub_self, Nat.toNat_testBit, Nat.pow_zero, Nat.div_one, Nat.add_comm]

theorem natOfBits_msbFirst {w : Nat} (v : BitVec w) : natOfBits (msbFirst v) = v.toNat :=
  (natOfBits_testBit w v.toNat).trans (Nat.mod_eq_of_lt v.isLt)

/-- The bits of the three bytes of a frame (R95, R103). -/
theorem frameBit_colourFrame (r g b : Channel) {k : Nat} (inByte : k < 8) :
    frameBit (colourFrame r g b) k = g.getLsbD (8 - 1 - k) ∧
    frameBit (colourFrame r g b) (8 + k) = r.getLsbD (8 - 1 - k) ∧
    frameBit (colourFrame r g b) (16 + k) = b.getLsbD (8 - 1 - k) := by
  simp only [frameBit, colourFrame_getLsbD]
  refine ⟨?_, ?_, ?_⟩
  · rw [if_neg (by omega), if_neg (by omega)]
    congr 1
    omega
  · rw [if_neg (by omega), if_pos (by omega)]
    congr 1
    omega
  · rw [if_pos (by omega)]
    congr 1
    omega

/-- The frame of a colour in time order: green, red and blue, each most significant bit first (R95). -/
theorem frameBitList_colourFrame (r g b : Channel) :
    frameBitList (colourFrame r g b) = msbFirst g ++ msbFirst r ++ msbFirst b := by
  have bytes : List.range 24 = List.range 8 ++ (List.range 8).map (8 + ·) ++ (List.range 8).map (16 + ·) := rfl
  rw [frameBitList, bytes, List.map_append, List.map_append, List.map_map, List.map_map]
  refine congrArg₂ _ (congrArg₂ _ ?green ?red) ?blue <;>
  · refine List.map_congr_left fun k mem => ?_
    have inByte := List.mem_range.mp mem
    obtain ⟨green, red, blue⟩ := frameBit_colourFrame r g b inByte
    assumption

@[simp] theorem length_msbFirst {w : Nat} (v : BitVec w) : (msbFirst v).length = w := by
  simp [msbFirst]

/-- Settles O57: the segment is the three bytes, and the bits of a byte give it back. -/
theorem colourOfDecodedBits : Obligations.ColourOfDecodedBits := by
  intro r g b
  rw [frameBitList_colourFrame, colourOfBits, if_pos (by simp)]
  simp [List.drop_append, List.drop_of_length_le, natOfBits_msbFirst]

/-! ### The round trip of a SEND -/

variable {s t u : State} {r g : Channel}

/-- The line over `n` cycles is what it is after each of them. -/
theorem ledTrace_eq_map {line : Nat → Bool}
    (drives : ∀ k < n, ∃ t, core.run (k + 1) s = .next t ∧ State.ledDout t = line k) :
    ledTrace n s = (List.range n).map line := by
  induction n generalizing s line with
  | zero => rfl
  | succ n ih =>
    obtain ⟨u, stepped⟩ := step_completes s
    obtain ⟨t, ran, first⟩ := drives 0 (by omega)
    cases stepped.symm.trans (run_one.mp ran)
    have later : ledTrace n u = (List.range n).map (fun k => line (k + 1)) := by
      refine ih fun k inRange => ?_
      obtain ⟨v, ran, drive⟩ := drives (k + 1) (by omega)
      obtain ⟨v', stepped', rest⟩ := run_succ_eq_next.mp ran
      cases stepped.symm.trans stepped'
      exact ⟨v, rest, drive⟩
    rw [ledTrace_succ n stepped, later, first, List.range_succ_eq_map, List.map_cons, List.map_map]
    rfl

theorem run_offersAt (ran : core.run m s = .next t) (what : Instr → Bool) (k : Nat) :
    t.offersAt what k = s.offersAt what (k + m) := by
  simp only [State.offersAt, run_portAt ran]

/-- The line `k` cycles after the one that accepts a SEND: the frame, and low from the frame end on. -/
def lineAfterSend (p : Params) (f : Frame) (k : Nat) : Bool := decide (k < p.frameCycles) && level p f k

theorem map_lineAfterSend (p : Params) (f : Frame) (n : Nat) :
    (List.range (p.frameCycles + n)).map (lineAfterSend p f) = frameWave p f ++ List.replicate n false := by
  rw [List.range_add, List.map_append, List.map_map, frameWave]
  congr 1
  · refine List.map_congr_left fun k mem => ?_
    simp [lineAfterSend, List.mem_range.mp mem]
  · have low : ∀ k ∈ List.range n, (lineAfterSend p f ∘ (p.frameCycles + ·)) k = false := by simp [lineAfterSend]
    simpa using List.map_eq_replicate_iff.mpr low

/-- The line after a SEND, as long as no reset comes and no other SEND after the frame end (R109, R110, R114). -/
theorem run_lineAfterSend {b : Channel} {k : Nat} (accepted : acceptedInstr s = some (.send r g b))
    (noReset : s.NoReset (k + 1)) (noSend : s.NeverOffers startsFrame (s.params.frameCycles + 1) (k + 1)) :
    ∃ t, core.run (k + 1) s = .next t ∧ State.ledDout t = lineAfterSend s.params (g ++ r ++ b) k := by
  by_cases inFrame : k < s.params.frameCycles
  · obtain ⟨t, ran, -, -, line⟩ := frameWaveform s r g b k accepted inFrame noReset
    exact ⟨t, ran, by simp [lineAfterSend, inFrame, line]⟩
  · obtain ⟨m, rfl⟩ := Nat.exists_eq_add_of_le (Nat.le_of_not_lt inFrame)
    obtain ⟨u, first⟩ := run_completes (s.params.frameCycles + 1) s
    have ended := run_frameEnded_of_send accepted (fun j early => noReset j (by omega)) first
    have noResetGap : u.NoReset m := fun j early => by
      rw [run_portAt first]
      exact noReset _ (by omega)
    have noSendGap : u.NeverOffers startsFrame 0 m := fun j early _ => by
      rw [run_offersAt first]
      exact noSend _ (by omega) (by omega)
    obtain ⟨t, rest, -, low, -⟩ := lowrunCountsGap m u ended.busy ended.ledDout
      (by rw [ended.lowrun]; exact u.params.tReset_pos) noResetGap noSendGap
    refine ⟨t, ?_, by simp [lineAfterSend, low]⟩
    rw [Nat.add_right_comm]
    exact (run_add first).mpr rest

/-- Settles O58: the line from the SEND on is the waveform of its frame and a gap, which the reference decoder reads
back (O55), and the bits of the frame are its three bytes. -/
theorem sendRoundTripOnTheWire : Obligations.SendRoundTripOnTheWire := by
  intro s r g b accepted gapOver short noReset noSend
  constructor
  · exact ⟨_, step_of_send accepted, by simp [gapOver]⟩
  · have line : ledTrace (s.params.frameCycles + s.params.tResetCyc) s =
        frameWave s.params (colourFrame r g b) ++ List.replicate s.params.tResetCyc false := by
      rw [← map_lineAfterSend]
      exact ledTrace_eq_map fun k inRange => run_lineAfterSend accepted (fun j early => noReset j (by omega))
        (fun j early late => noSend j (by omega) late)
    have bits := referenceDecoderReadsWaveform s.params (colourFrame r g b) short
    rw [line, ← List.append_assoc, bits]
    exact congrArg (fun bs => [WireFrame.bits bs]) (frameBitList_colourFrame r g b)

end Sys2Proof.Machine

/-! PROOF. The servo pulse generator over one cycle (R130 to R137, R140, R142): what WR.PW and WR.CTRL write, that
nothing but the tick service writes FT, SERVO_OUT, FRM and SEC, and the tick source with its registers. -/

namespace Sys2Proof.Machine

variable {s t : State} {i : Instr}

/-! ### The commands -/

/-- Settles O10: WR.PW is one register write. -/
theorem wrPwWritesWholeRegister : Obligations.WrPwWritesWholeRegister := fun _ _ => rfl

/-- Settles O11: WR.CTRL writes TICK_EN, and with E = 0 clears TPH and TPEND as well. -/
theorem wrCtrlSwitchesTicks : Obligations.WrCtrlSwitchesTicks := fun _ => ⟨rfl, rfl⟩

/-- No command writes FRM or SEC. -/
theorem exec_keeps_seconds (ran : exec i s = .next t) : t.frm = s.frm ∧ t.sec = s.sec := by
  cases i with
  | send r g b =>
    rw [sendStartsFrame] at ran
    cases ran
    exact ⟨rfl, rfl⟩
  | wrCtrl e => cases ran; cases e <;> exact ⟨rfl, rfl⟩
  | nop | wrPw v | rdStatus | rdFt | rdPw | rdCtrl | rdSec => cases ran; exact ⟨rfl, rfl⟩

/-- The registers of the tick source, with the tick that waits for its service (R35, R38, R39). -/
def State.tickSource (s : State) : Bool × Nat × Bool := (s.tickEn, s.tph, s.tpend)

/-- No command but WR.CTRL writes a register of the tick source. -/
theorem exec_keeps_tickSource (other : ∀ e, i ≠ .wrCtrl e) (ran : exec i s = .next t) :
    t.tickSource = s.tickSource := by
  cases i with
  | send r g b =>
    rw [sendStartsFrame] at ran
    cases ran
    rfl
  | wrCtrl e => exact absurd rfl (other e)
  | nop | wrPw v | rdStatus | rdFt | rdPw | rdCtrl | rdSec => cases ran; rfl

/-! ### The tick service in a cycle -/

/-- FRM is written in phase 2 alone (R136). -/
theorem step_frm (resetLow : s.port.reset = false) (stepped : step s = .next t) :
    t.frm = (beforeHost s.takePort).frm :=
  step_keeps_field (field := State.frm) (fun _ _ _ _ ran => have ⟨kept, _⟩ := exec_keeps_seconds ran; kept)
    (fun _ => rfl) (fun b u => phase5Encoder_frm u b) resetLow stepped

/-- SEC is written in phase 2 alone (R136). -/
theorem step_sec (resetLow : s.port.reset = false) (stepped : step s = .next t) :
    t.sec = (beforeHost s.takePort).sec :=
  step_keeps_field (field := State.sec) (fun _ _ _ _ ran => have ⟨_, kept⟩ := exec_keeps_seconds ran; kept)
    (fun _ => rfl) (fun b u => phase5Encoder_sec u b) resetLow stepped

/-- FT, FRM and SEC after a cycle with a service: SEC advances when FRM wraps, and FRM counts when FT wraps (R134,
R136). -/
theorem step_of_service (resetLow : s.port.reset = false) (pending : s.tpend = true) (idle : s.busy = false)
    (stepped : step s = .next t) :
    t.ft = nextTick s.params s.ft ∧
    t.frm = (if t.ft = 0#16 then (if s.frm + 1 = s.params.framesPerSec then 0 else s.frm + 1) else s.frm) ∧
    t.sec = (if t.ft = 0#16 then (if s.frm + 1 = s.params.framesPerSec then s.sec + 1#16 else s.sec) else s.sec) := by
  have ft : t.ft = nextTick s.params s.ft := by
    rw [step_ft resetLow stepped, beforeHost_takePort_ft]
    simp [pending, idle]
  rw [step_frm resetLow stepped, step_sec resetLow stepped, beforeHost_takePort_frm, beforeHost_takePort_sec, ft]
  simp [pending, idle]

/-- Settles O30: the service writes FT, SERVO_OUT, FRM and SEC, and the rest of the cycle leaves them alone. -/
theorem tickServiceCycle : Obligations.TickServiceCycle := by
  intro s t inRange resetLow pending idle stepped
  obtain ⟨ft, frm, sec⟩ := step_of_service resetLow pending idle stepped
  have completed : t.ft = 0#16 ↔ t.ft.toNat = 0 := BitVec.toNat_inj.symm
  simp only [completed] at frm sec
  refine ⟨?_, step_servoOut_of_service resetLow pending idle stepped, fun running => ?_, fun wraps second => ?_,
    fun wraps within => ?_⟩
  · rw [ft, nextTick_toNat s.params s.ft inRange]
  · simp [frm, sec, running]
  · simp [frm, sec, wraps, second]
  · simp [frm, sec, wraps, within]

/-- Settles O31: without a service phases 1 to 3 leave the four registers alone, and no other phase writes them. -/
theorem noServiceNoServoChange : Obligations.NoServiceNoServoChange := by
  intro s t resetLow unserviced stepped
  have noService : (s.tpend && !s.busy) = false := by
    rcases unserviced with notPending | sending
    · simp [notPending]
    · simp [sending]
  rw [step_servoOut resetLow stepped, step_ft resetLow stepped, step_frm resetLow stepped, step_sec resetLow stepped,
    beforeHost_takePort_servoOut, beforeHost_takePort_ft, beforeHost_takePort_frm, beforeHost_takePort_sec, noService]
  exact ⟨rfl, rfl, rfl, rfl⟩

/-! ### The control registers after a cycle -/

/-- Without a WR.CTRL the tick source is after the cycle as phases 1 to 3 leave it (R130, R131). -/
theorem step_tickSource_of_no_wrCtrl (resetLow : s.port.reset = false)
    (noWrite : ∀ e, acceptedInstr s ≠ some (.wrCtrl e)) (stepped : step s = .next t) :
    t.tickEn = (beforeHost s.takePort).tickEn ∧ t.tph = (beforeHost s.takePort).tph ∧
    t.tpend = (beforeHost s.takePort).tpend := by
  have kept : t.tickSource = (beforeHost s.takePort).tickSource :=
    step_keeps_field (field := State.tickSource)
      (fun i _ _ accepted ran => exec_keeps_tickSource (fun e same => noWrite e (same ▸ accepted)) ran)
      (fun _ => rfl) (fun b u => by simp [State.tickSource]) resetLow stepped
  simpa only [State.tickSource, Prod.mk.injEq] using kept

/-- A WR.CTRL comes after phases 1 to 3: E = 1 leaves TPH and TPEND as they do, E = 0 clears them (R142). -/
theorem step_tickSource_of_wrCtrl {e : Bool} (accepted : acceptedInstr s = some (.wrCtrl e))
    (stepped : step s = .next t) :
    t.tickEn = e ∧ t.tph = (if e then (beforeHost s.takePort).tph else 0) ∧
    t.tpend = (e && (beforeHost s.takePort).tpend) ∧ t.rsp = none := by
  obtain ⟨enables, disables⟩ := wrCtrlSwitchesTicks (beforeHost s.takePort)
  cases e with
  | false =>
    cases stepped.symm.trans (step_of_acceptedInstr accepted disables)
    simp
  | true =>
    cases stepped.symm.trans (step_of_acceptedInstr accepted enables)
    simp

theorem isWrPw_eq_true : isWrPw i = true ↔ ∃ v, i = .wrPw v := by
  cases i <;> simp [isWrPw]

/-- A WR.PW gives no response (R168). -/
theorem step_rsp_of_wrPw {v : Half} (accepted : acceptedInstr s = some (.wrPw v)) (stepped : step s = .next t) :
    t.rsp = none := by
  cases stepped.symm.trans (step_of_acceptedInstr accepted (wrPwWritesWholeRegister v _))
  simp

/-- Settles O32: PW is written by a WR.PW alone, and the tick source is as phases 1 to 3 leave it unless a WR.CTRL
writes it. -/
theorem controlRegistersNext : Obligations.ControlRegistersNext := by
  intro s t resetLow stepped
  refine ⟨?_, ?_⟩
  · split
    next v accepted => exact step_pw_of_wrPw accepted stepped
    next other =>
      refine step_pw_of_no_wrPw resetLow (fun i accepted => ?_) stepped
      rw [← Bool.not_eq_true, isWrPw_eq_true]
      rintro ⟨v, rfl⟩
      exact other v accepted
  · by_cases written : ∃ e, acceptedInstr s = some (.wrCtrl e)
    · obtain ⟨e, accepted⟩ := written
      obtain ⟨tickEn, tph, tpend, noResponse⟩ := step_tickSource_of_wrCtrl accepted stepped
      cases e <;> simp [accepted, tickEn, tph, tpend, noResponse, beforeHost_takePort_tph]
    · have noWrite : ∀ e, acceptedInstr s ≠ some (.wrCtrl e) := fun e accepted => written ⟨e, accepted⟩
      obtain ⟨tickEn, tph, tpend⟩ := step_tickSource_of_no_wrCtrl resetLow noWrite stepped
      refine ⟨?_, ?_, ?_, fun v accepted => step_rsp_of_wrPw accepted stepped,
        fun e accepted => absurd accepted (noWrite e)⟩
      · split
        next e accepted => exact absurd accepted (noWrite e)
        next => simpa using tickEn
      · rw [if_neg (noWrite false), tph, beforeHost_takePort_tph]
      · simpa [noWrite false] using tpend

end Sys2Proof.Machine

/-! PROOF. The tick source and the tick service over many cycles and services: the tick events (R130, R143), the pulse
(R134, R138, R139) and the seconds (R136, R147). -/

namespace Sys2Proof.Machine

open Config

variable {s t : State} {n : Nat}

/-! ### Tick events -/

/-- With ticks on and no WR.CTRL 0 offered, a cycle leaves them on and advances TPH by one modulo TICK_CYC (R130). -/
theorem step_tickPhase (on : s.tickEn = true) (inRange : s.tph < s.params.tickCyc) (resetLow : s.port.reset = false)
    (noOff : s.offersAt isTickOff 0 = false) (stepped : step s = .next t) :
    t.tickEn = true ∧ t.tph = (s.tph + 1) % s.params.tickCyc := by
  have notOff : acceptedInstr s ≠ some (.wrCtrl false) := fun accepted => by
    simp [offersAt_zero_of_acceptedInstr isTickOff accepted, isTickOff] at noOff
  obtain ⟨-, remainder⟩ := succ_div_mod s.params.tick_pos s.tph
  obtain ⟨-, tickEn, tph, -⟩ := controlRegistersNext s t resetLow stepped
  constructor
  · rw [tickEn]
    split
    next e accepted =>
      cases e with
      | false => exact absurd accepted notOff
      | true => rfl
    next => exact on
  · rw [tph, if_neg notOff, if_pos on, remainder, Nat.mod_eq_of_lt inRange]

/-- TPH wraps in the coming cycle exactly if one more cycle makes up a whole number of tick periods (R130). -/
theorem tickEvent_eq {x : Nat} (on : s.tickEn = true) (phase : s.tph = x % s.params.tickCyc) :
    tickEvent s = decide ((x + 1) % s.params.tickCyc = 0) := by
  obtain ⟨-, remainder⟩ := succ_div_mod s.params.tick_pos x
  rw [remainder]
  split_ifs with wraps <;> simp [tickEvent, on, phase, wraps]

/-- Ticks stay on and TPH counts the cycles modulo TICK_CYC while no reset comes and no WR.CTRL 0 is offered (R130). -/
theorem run_tickPhase (on : s.tickEn = true) (inRange : s.tph < s.params.tickCyc) (noReset : s.NoReset n)
    (noOff : s.NeverOffers isTickOff 0 n) (ran : core.run n s = .next t) :
    t.params = s.params ∧ t.tickEn = true ∧ t.tph = (s.tph + n) % s.params.tickCyc := by
  induction n generalizing s with
  | zero =>
    cases ran
    exact ⟨rfl, on, (Nat.mod_eq_of_lt inRange).symm⟩
  | succ n ih =>
    obtain ⟨u, stepped, rest⟩ := run_succ_eq_next.mp ran
    have resetLow : s.port.reset = false := portAt_zero s ▸ noReset 0 (by omega)
    have params := step_params stepped
    obtain ⟨stillOn, phase⟩ := step_tickPhase on inRange resetLow (noOff 0 (by omega) le_rfl) stepped
    have stillInRange : u.tph < u.params.tickCyc := by
      rw [phase, params]
      exact Nat.mod_lt _ s.params.tick_pos
    obtain ⟨paramsThen, onThen, phaseThen⟩ :=
      ih stillOn stillInRange (noReset.step stepped) (noOff.step stepped) rest
    refine ⟨paramsThen.trans params, onThen, ?_⟩
    rw [phaseThen, phase, params, Nat.mod_add_mod, Nat.add_assoc, Nat.add_comm 1 n]

/-- Settles O35: TPH counts the cycles, and an event is its wrap. -/
theorem tickEventEveryPeriod : Obligations.TickEventEveryPeriod := by
  intro n s on inRange noReset noOff
  obtain ⟨t, ran⟩ := run_completes n s
  obtain ⟨params, onThen, phase⟩ := run_tickPhase on inRange noReset noOff ran
  refine ⟨t, ran, onThen, phase, ?_⟩
  rw [← params]
  exact tickEvent_eq onThen (params ▸ phase)

/-- Settles O36: the accepting cycle, with ticks still off in its phase 1, leaves them on with TPH = 0, and from there
the events come every TICK_CYC cycles (O35). -/
theorem firstTickAfterEnable : Obligations.FirstTickAfterEnable := by
  intro n s inv off accepted noReset noOff
  obtain ⟨-, -, ticksOff, -⟩ := inv
  obtain ⟨phaseZero, -⟩ := ticksOff off
  obtain ⟨u, stepped⟩ := step_completes s
  obtain ⟨on, tph, -⟩ := step_tickSource_of_wrCtrl accepted stepped
  have phase : u.tph = 0 := by simpa [beforeHost_takePort_tph, off, phaseZero] using tph
  obtain ⟨t, rest, -, -, event⟩ := tickEventEveryPeriod n u on (by rw [phase]; exact u.params.tick_pos)
    (noReset.step stepped) (noOff.step stepped)
  refine ⟨t, run_succ_eq_next.mpr ⟨u, stepped, rest⟩, ?_⟩
  rw [event, phase, step_params stepped, Nat.zero_add]

/-! ### Services one after another -/

@[simp] theorem iterate_tickService_params (n : Nat) (s : State) : (tickService^[n] s).params = s.params := by
  induction n with
  | zero => rfl
  | succ n ih => rw [Function.iterate_succ_apply', tickService_params, ih]

@[simp] theorem iterate_tickService_pw (n : Nat) (s : State) : (tickService^[n] s).pw = s.pw := by
  induction n with
  | zero => rfl
  | succ n ih => rw [Function.iterate_succ_apply', tickService_pw, ih]

/-- FT counts the services modulo FRAME_LEN (R134). -/
theorem iterate_tickService_ft (inRange : s.ft.toNat < s.params.frameLen) (n : Nat) :
    (tickService^[n] s).ft.toNat = (s.ft.toNat + n) % s.params.frameLen := by
  induction n with
  | zero => exact (Nat.mod_eq_of_lt inRange).symm
  | succ n ih =>
    have stillInRange : (tickService^[n] s).ft.toNat < s.params.frameLen := ih ▸ Nat.mod_lt _ s.params.frameLen_pos
    rw [Function.iterate_succ_apply', tickService_ft, iterate_tickService_params,
      nextTick_toNat s.params _ stillInRange, ih, Nat.mod_add_mod, Nat.add_assoc]

/-- SERVO_OUT after a service compares the FT it sets with PW (R135). -/
theorem iterate_tickService_servoOut (n : Nat) (s : State) :
    (tickService^[n + 1] s).servoOut = decide ((tickService^[n + 1] s).ft.toNat ≤ s.pw.toNat) := by
  simp [Function.iterate_succ_apply', BitVec.ule]

/-- Settles O38: the services of a servo frame from FT = 0 on set FT = 0, 1, ..., FRAME_LEN - 1, and the line is high
as long as FT <= PW. -/
theorem pulseIsPwPlusOneTicks : Obligations.PulseIsPwPlusOneTicks := by
  intro s j last _ inFrame
  have ft : (tickService^[j + 1] s).ft.toNat = j := by
    have wraps : s.ft.toNat + (j + 1) = j + s.params.frameLen := by omega
    rw [iterate_tickService_ft (by omega), wraps, Nat.add_mod_right, Nat.mod_eq_of_lt inFrame]
  refine ⟨ft, ?_⟩
  rw [iterate_tickService_servoOut, ft]
  exact decide_eq_decide.mpr Nat.lt_succ_iff.symm

/-- Settles O39: every FT is at most FRAME_LEN - 1. -/
theorem widePulseNeverFalls : Obligations.WidePulseNeverFalls := by
  intro s n inRange wide
  rw [iterate_tickService_servoOut, iterate_tickService_ft inRange, decide_eq_true_iff]
  have := Nat.mod_lt (s.ft.toNat + (n + 1)) s.params.frameLen_pos
  omega

/-! ### Seconds -/

/-- A service completes a servo frame exactly if FT is at its last value (R134). -/
theorem nextTick_eq_zero_iff (p : Params) {ft : Half} (inRange : ft.toNat < p.frameLen) :
    nextTick p ft = 0#16 ↔ ft.toNat = p.frameLen - 1 := by
  obtain ⟨-, remainder⟩ := succ_div_mod p.frameLen_pos ft.toNat
  rw [← BitVec.toNat_inj, nextTick_toNat p ft inRange, remainder, Nat.mod_eq_of_lt inRange]
  split_ifs with wraps <;> simp [wraps]

/-- With FRM and SEC the remainder and the quotient of the number of completed frames by FRAMES_PER_SEC, a service keeps
them so: at the last FT it completes one more frame, at every other FT none (R136). -/
theorem tickService_seconds {frames : Nat} {sec₀ : Half} (inRange : s.ft.toNat < s.params.frameLen)
    (frm : s.frm = frames % s.params.framesPerSec)
    (sec : s.sec = sec₀ + BitVec.ofNat 16 (frames / s.params.framesPerSec)) :
    (tickService s).frm =
      (frames + if s.ft.toNat = s.params.frameLen - 1 then 1 else 0) % s.params.framesPerSec ∧
    (tickService s).sec = sec₀ + BitVec.ofNat 16
      ((frames + if s.ft.toNat = s.params.frameLen - 1 then 1 else 0) / s.params.framesPerSec) := by
  obtain ⟨quotient, remainder⟩ := succ_div_mod s.params.framesPerSec_pos frames
  have lastOfSecond : s.frm + 1 = s.params.framesPerSec ↔
      frames % s.params.framesPerSec = s.params.framesPerSec - 1 := by
    have := s.params.framesPerSec_pos
    omega
  simp only [tickService_frm, tickService_sec, nextTick_eq_zero_iff s.params inRange, lastOfSecond]
  by_cases completes : s.ft.toNat = s.params.frameLen - 1
  · simp only [completes, if_true, quotient, remainder]
    split_ifs with wraps
    · exact ⟨rfl, by rw [sec, BitVec.add_assoc, ← BitVec.ofNat_add]⟩
    · exact ⟨by rw [frm], sec⟩
  · simpa only [completes, if_false] using ⟨frm, sec⟩

/-- FRM and SEC count the frames that `n` services complete (R136, R147). -/
theorem iterate_tickService_seconds (inRange : s.ft.toNat < s.params.frameLen) (inSecond : s.frm < s.params.framesPerSec)
    (n : Nat) :
    (tickService^[n] s).frm = (s.frm + (s.ft.toNat + n) / s.params.frameLen) % s.params.framesPerSec ∧
    (tickService^[n] s).sec =
      s.sec + BitVec.ofNat 16 ((s.frm + (s.ft.toNat + n) / s.params.frameLen) / s.params.framesPerSec) := by
  induction n with
  | zero => simp [Nat.div_eq_of_lt inRange, Nat.mod_eq_of_lt inSecond, Nat.div_eq_of_lt inSecond]
  | succ n ih =>
    obtain ⟨frm, sec⟩ := ih
    have ft := iterate_tickService_ft inRange n
    have params := iterate_tickService_params n s
    have stillInRange : (tickService^[n] s).ft.toNat < s.params.frameLen := ft ▸ Nat.mod_lt _ s.params.frameLen_pos
    obtain ⟨frames, -⟩ := succ_div_mod s.params.frameLen_pos (s.ft.toNat + n)
    have counted := tickService_seconds (by rwa [params]) (by rwa [params]) (by rwa [params])
    rw [Function.iterate_succ_apply', ← Nat.add_assoc, frames, ← Nat.add_assoc]
    simpa only [params, ft] using counted

/-- Settles O40: FRAME_LEN·FRAMES_PER_SEC services bring FT back and complete FRAMES_PER_SEC frames, which bring FRM back
and add one to SEC. -/
theorem secondEveryFrameCount : Obligations.SecondEveryFrameCount := by
  intro s inRange inSecond
  have frames : (s.ft.toNat + s.params.frameLen * s.params.framesPerSec) / s.params.frameLen =
      s.params.framesPerSec := by
    rw [Nat.add_mul_div_left _ _ s.params.frameLen_pos, Nat.div_eq_of_lt inRange, Nat.zero_add]
  obtain ⟨frm, sec⟩ := iterate_tickService_seconds inRange inSecond (s.params.frameLen * s.params.framesPerSec)
  rw [frames] at frm sec
  refine ⟨?_, ?_, ?_⟩
  · rw [sec, Nat.add_div_right _ s.params.framesPerSec_pos, Nat.div_eq_of_lt inSecond]
  · apply BitVec.eq_of_toNat_eq
    rw [iterate_tickService_ft inRange, Nat.add_mul_mod_self_left, Nat.mod_eq_of_lt inRange]
  · rw [frm, Nat.add_mod_right, Nat.mod_eq_of_lt inSecond]

end Sys2Proof.Machine

/-! PROOF. The host access commands (R160 to R168): NOP and an illegal word beside a cycle with no word, the five reads
as one command with a register selector, and the responses, which only the reads give. -/

namespace Sys2Proof.Machine

variable {s t : State} {i : Instr}

/-! ### The commands -/

/-- Settles O8: NOP is the identity. -/
theorem nopChangesNothing : Obligations.NopChangesNothing := fun _ => rfl

/-- Settles O12: the response is the STATUS word, whose bits are the four flags and 0 above them. -/
theorem rdStatusReadsFlags : Obligations.RdStatusReadsFlags := by
  intro s
  have bits := statusWord_getLsbD s
  refine ⟨statusWord s, rfl, bits 0, bits 1, bits 2, bits 3, fun k above => ?_⟩
  rw [bits, if_neg (by omega), if_neg (by omega), if_neg (by omega), if_neg (by omega)]

/-- Zero-extension keeps the number that a register holds (R62). -/
theorem zext32_eq_ofNat {n : Nat} (v : BitVec n) : zext32 v = BitVec.ofNat 32 v.toNat := (BitVec.ofNat_toNat 32 v).symm

theorem ctrlWord_eq_ite (s : State) : ctrlWord s = if s.tickEn then 1#32 else 0#32 := by
  unfold ctrlWord
  cases s.tickEn <;> rfl

/-- The command that reads a register (R85). -/
def RegSel.readInstr : RegSel → Instr
  | .status => .rdStatus
  | .ft => .rdFt
  | .pw => .rdPw
  | .ctrl => .rdCtrl
  | .sec => .rdSec

/-- Every read is the common read of R161 with its own selector. -/
theorem exec_readInstr (sel : RegSel) (s : State) :
    exec sel.readInstr s = .next { s with rsp := some (readReg s sel) } := by
  cases sel with
  | status | ft | pw | ctrl | sec => rfl

/-- Settles O13: each read responds with its register, and a register read as a word is the number it holds. -/
theorem registerReadsRespond : Obligations.RegisterReadsRespond := by
  intro s
  rw [← zext32_eq_ofNat, ← zext32_eq_ofNat, ← zext32_eq_ofNat, ← ctrlWord_eq_ite]
  exact ⟨exec_readInstr .ft s, exec_readInstr .pw s, exec_readInstr .ctrl s, exec_readInstr .sec s⟩

theorem startsFrame_readInstr (sel : RegSel) : startsFrame sel.readInstr = false := by
  cases sel with
  | status | ft | pw | ctrl | sec => rfl

/-- No command but a read gives a response (R168). -/
theorem exec_rsp_of_not_read (notRead : ∀ sel : RegSel, i ≠ sel.readInstr) (ran : exec i s = .next t) :
    t.rsp = s.rsp := by
  cases i with
  | send r g b =>
    rw [sendStartsFrame] at ran
    cases ran
    rfl
  | wrCtrl e => cases ran; cases e <;> rfl
  | nop | wrPw v => cases ran; rfl
  | rdStatus => exact absurd rfl (notRead .status)
  | rdFt => exact absurd rfl (notRead .ft)
  | rdPw => exact absurd rfl (notRead .pw)
  | rdCtrl => exact absurd rfl (notRead .ctrl)
  | rdSec => exact absurd rfl (notRead .sec)

/-! ### The words of the reads -/

/-- The word of a read carries OP 4 and the register's SEL, and its other bits are 0 (R85). -/
theorem encode_readInstr (sel : RegSel) : encode sel.readInstr = 0x4#4 ++ sel.code ++ 0#24 := by
  cases sel with
  | status | ft | pw | ctrl | sec => rfl

/-- The decoder and the encoder are inverse to each other on the legal words. -/
theorem decode_eq_ok_iff_eq_encode {w : Word} : decode w = .ok i ↔ w = encode i := by
  constructor
  · intro decodes
    exact (legalWordIsItsEncoding w i decodes).symm
  · rintro rfl
    obtain ⟨-, decodes⟩ := decodeGivesBackEncoded i
    exact decodes

/-- The block accepts a command exactly if it accepts the command's word. -/
theorem acceptedWord_encode_iff : acceptedWord s = some (encode i) ↔ acceptedInstr s = some i := by
  unfold acceptedInstr
  cases acceptedWord s with
  | none => simp
  | some w =>
    rw [Option.some_inj, ← decode_eq_ok_iff_eq_encode]
    cases decodes : decode w <;> simp [decodes]

/-- The block accepts the read of a register exactly if it accepts the word with OP 4 and the register's SEL (R85). -/
theorem acceptedWord_read_iff (sel : RegSel) :
    acceptedWord s = some (0x4#4 ++ sel.code ++ 0#24) ↔ acceptedInstr s = some sel.readInstr := by
  rw [← encode_readInstr]
  exact acceptedWord_encode_iff

/-! ### A cycle beside the cycle with no word -/

/-- Phase 5 neither reads nor writes ILL and the response. -/
theorem phase5Encoder_with_ill_rsp (started : Bool) (s : State) (ill : Bool) (rsp : Option Word) :
    phase5Encoder started { s with ill := ill, rsp := rsp } =
      { phase5Encoder started s with ill := ill, rsp := rsp } := by
  rcases phase5Encoder_cases s started with
    ⟨rfl, -⟩ | ⟨rfl, busy, last, -⟩ | ⟨rfl, busy, notLast, -⟩ | ⟨rfl, idle, -⟩
  · rfl
  · simp [phase5Encoder, busy, last]; rfl
  · simp [phase5Encoder, busy, notLast]; rfl
  · simp [phase5Encoder, idle]; rfl

/-- With no word offered, phases 1 to 3 and 5 are the whole cycle (R50, R54). -/
theorem step_withoutWord (s : State) :
    step s.withoutWord = .next (phase5Encoder false (beforeHost s.takePort)) := by
  have noWord : phase4Host none (beforeHost s.takePort) = .next (beforeHost s.takePort, false) := by
    simp [phase4Host]
  rw [step_of_not_reset (s := s.withoutWord) rfl, withoutWord_takePort]
  exact congrArg afterHost noWord

/-- A step that accepts an illegal word raises ILL between phases 3 and 5 (R167). -/
theorem step_of_illegal (accepted : acceptsIllegal s = true) :
    step s = .next (phase5Encoder false (execIllegal (beforeHost s.takePort))) := by
  obtain ⟨resetLow, idle, w, e, offered, rejected⟩ := (acceptsIllegal_eq_true s).mp accepted
  simpa [acceptedInstr_eq_some, accepted, resetLow, idle, offered, rejected] using step_cases s

/-- An illegal word writes ILL alone (R167). -/
theorem execIllegal_eq_with_ill (s : State) : execIllegal s = { s with ill := true } := by
  simp [execIllegal, State.raise]

/-- A step that accepts a read responds with the register as phases 1 to 3 leave it, and goes on as with no word (R70,
R161). -/
theorem step_of_read {sel : RegSel} (accepted : acceptedInstr s = some sel.readInstr) :
    step s = .next { phase5Encoder false (beforeHost s.takePort) with
      rsp := some (readReg (beforeHost s.takePort) sel) } := by
  rw [step_of_acceptedInstr accepted (exec_readInstr sel _), startsFrame_readInstr, phase5Encoder_with_ill_rsp,
    ← phase5Encoder_ill (beforeHost s.takePort) false]

/-- Settles O19: NOP leaves the state between phases 3 and 5 as it is. -/
theorem nopIsLikeNoWord : Obligations.NopIsLikeNoWord := by
  intro s port idle
  have accepted : acceptedInstr s = some .nop :=
    acceptedInstr_of_offered port idle (decode_eq_ok_iff_eq_encode.mpr rfl)
  rw [step_of_acceptedInstr accepted (nopChangesNothing _), step_withoutWord]
  rfl

/-- Settles O20: ILL is set between phases 3 and 5, and phase 5 does not read it. -/
theorem illegalWordOnlySetsIll : Obligations.IllegalWordOnlySetsIll := by
  intro s w e port idle rejected
  have accepted : acceptsIllegal s = true :=
    (acceptsIllegal_eq_true s).mpr ⟨by rw [port], idle, w, e, by rw [port], rejected⟩
  refine ⟨_, step_withoutWord s, by simp, ?_⟩
  rw [step_of_illegal accepted, execIllegal_eq_with_ill, phase5Encoder_with_ill_rsp,
    ← phase5Encoder_rsp (beforeHost s.takePort) false]

/-- Settles O21: the response is given between phases 3 and 5, and phase 5 keeps it. -/
theorem readsHaveNoSideEffect : Obligations.ReadsHaveNoSideEffect := by
  rintro s w sel port idle rfl
  have decodes := decode_eq_ok_iff_eq_encode.mpr (encode_readInstr sel).symm
  exact ⟨_, step_withoutWord s, step_of_read (acceptedInstr_of_offered port idle decodes)⟩

/-! ### The responses -/

/-- A step that accepts no read gives no response, whatever else it does (R168, R210). -/
theorem step_rsp_of_no_read (noRead : ∀ sel : RegSel, acceptedInstr s ≠ some sel.readInstr)
    (stepped : step s = .next t) : t.rsp = none := by
  cases reset : s.port.reset with
  | true =>
    cases stepped.symm.trans (step_of_reset reset)
    rfl
  | false =>
    have kept : t.rsp = (beforeHost s.takePort).rsp :=
      step_keeps_field (field := State.rsp)
        (fun i _ _ accepted ran => exec_rsp_of_not_read (fun sel same => noRead sel (same ▸ accepted)) ran)
        (fun _ => rfl) (fun b u => phase5Encoder_rsp u b) reset stepped
    simpa using kept

/-- Settles O59: an accepted read responds, and nothing else does. -/
theorem onlyReadsRespond : Obligations.OnlyReadsRespond := by
  intro s t stepped
  simp only [acceptedWord_read_iff]
  constructor
  · intro responds
    by_contra noRead
    exact responds (step_rsp_of_no_read (not_exists.mp noRead) stepped)
  · rintro ⟨sel, accepted⟩
    cases stepped.symm.trans (step_of_read accepted)
    exact Option.some_ne_none _

end Sys2Proof.Machine

/-! PROOF. The causes and the judgement (R180 to R184, R191): what no command writes, the condition that sets each
sticky bit of STATUS, and the faults that a judged run meets. The block itself goes on in every state. -/

namespace Sys2Proof.Machine

variable {s t : State} {i : Instr}

/-! ### What the commands leave alone -/

/-- No command writes TOVR or ILL (R131, R167). -/
theorem exec_keeps_tovr_ill (ran : exec i s = .next t) : t.tovr = s.tovr ∧ t.ill = s.ill := by
  cases i with
  | send r g b =>
    rw [sendStartsFrame] at ran
    cases ran
    exact ⟨rfl, rfl⟩
  | wrCtrl e => cases ran; cases e <;> exact ⟨rfl, rfl⟩
  | nop | wrPw v | rdStatus | rdFt | rdPw | rdCtrl | rdSec => cases ran; exact ⟨rfl, rfl⟩

/-- No command but SEND writes GAPV (R111). -/
theorem exec_keeps_gapv (notSend : startsFrame i = false) (ran : exec i s = .next t) : t.gapv = s.gapv := by
  cases i with
  | send r g b => cases notSend
  | wrCtrl e => cases ran; cases e <;> rfl
  | nop | wrPw v | rdStatus | rdFt | rdPw | rdCtrl | rdSec => cases ran; rfl

/-- Settles O14: the tick service alone writes FT, SERVO_OUT, FRM and SEC, and no command writes the other four. -/
theorem commandsLeaveServoCounters : Obligations.CommandsLeaveServoCounters := by
  intro i s
  obtain ⟨t, ran⟩ := exec_completes i s
  obtain ⟨ft, servoOut, inputs⟩ := exec_frame ran
  obtain ⟨frm, sec⟩ := exec_keeps_seconds ran
  obtain ⟨tovr, ill⟩ := exec_keeps_tovr_ill ran
  exact ⟨t, ran, ft, sec, frm, servoOut, tovr, ill, exec_params ran, inputs⟩

/-- Settles O17: phases 1 to 3 and 5 are total, and so is every command. -/
theorem stepAlwaysAnswersNext : Obligations.StepAlwaysAnswersNext := step_completes

/-! ### The sticky bits after a cycle -/

/-- TOVR is set in phase 3 alone, by an event that finds a tick held back by BUSY (R131). -/
theorem step_tovr (resetLow : s.port.reset = false) (stepped : step s = .next t) :
    t.tovr = (s.tovr || (tickEvent s && s.tpend && s.busy)) := by
  have kept : t.tovr = (beforeHost s.takePort).tovr :=
    step_keeps_field (field := State.tovr) (fun _ _ _ _ ran => have ⟨kept, _⟩ := exec_keeps_tovr_ill ran; kept)
      (fun u => by simp [execIllegal_eq]) (fun b u => phase5Encoder_tovr u b) resetLow stepped
  simpa [Bool.and_assoc] using kept

/-- GAPV is set by a SEND alone, before the reset gap has elapsed (R111). -/
theorem step_gapv (resetLow : s.port.reset = false) (stepped : step s = .next t) :
    t.gapv = (s.gapv || (acceptsSend s && decide (s.lowrun < s.params.tResetCyc))) := by
  cases send : acceptsSend s with
  | true =>
    obtain ⟨r, g, b, accepted⟩ := acceptsSend_eq_true.mp send
    cases stepped.symm.trans (step_of_send accepted)
    simp
  | false =>
    have kept : t.gapv = (beforeHost s.takePort).gapv :=
      step_keeps_field (field := State.gapv)
        (fun _ _ _ accepted ran => exec_keeps_gapv (startsFrame_of_acceptsSend_false send accepted) ran)
        (fun u => by simp [execIllegal_eq]) (fun b u => phase5Encoder_gapv u b) resetLow stepped
    simpa using kept

/-- A block that accepts a command accepts no illegal word. -/
theorem acceptsIllegal_of_acceptedInstr (accepted : acceptedInstr s = some i) : acceptsIllegal s = false := by
  obtain ⟨-, -, w, offered, decodes⟩ := (acceptedInstr_eq_some s).mp accepted
  simp [← Bool.not_eq_true, acceptsIllegal_eq_true, offered, decodes]

/-- ILL is set by an accepted illegal word alone (R167). -/
theorem step_ill (resetLow : s.port.reset = false) (stepped : step s = .next t) :
    t.ill = (s.ill || acceptsIllegal s) := by
  rcases step_cases s with
    ⟨reset, -⟩ | ⟨-, busy, held⟩ | ⟨-, -, noCmd, noWord⟩ | ⟨taken, illegal⟩ | ⟨i, accepted, -⟩
  · simp [resetLow] at reset
  · have notTaken : acceptsIllegal s = false := by simp [← Bool.not_eq_true, acceptsIllegal_eq_true, busy]
    cases stepped.symm.trans held
    simp [notTaken]
  · have notTaken : acceptsIllegal s = false := by simp [← Bool.not_eq_true, acceptsIllegal_eq_true, noCmd]
    cases stepped.symm.trans noWord
    simp [notTaken]
  · cases stepped.symm.trans illegal
    simp [execIllegal_eq, taken]
  · obtain ⟨u, ran⟩ := exec_completes i (beforeHost s.takePort)
    obtain ⟨-, ill⟩ := exec_keeps_tovr_ill ran
    cases stepped.symm.trans (step_of_acceptedInstr accepted ran)
    simp [ill, acceptsIllegal_of_acceptedInstr accepted]

/-- Settles O28: each sticky bit has one writer, which only sets it. -/
theorem stickyBitsSetOnCondition : Obligations.StickyBitsSetOnCondition := fun _ _ resetLow stepped =>
  ⟨step_tovr resetLow stepped, step_gapv resetLow stepped, step_ill resetLow stepped⟩

/-! ### The judgement of R182 -/

/-- No fault stands exactly in the states that meet the premise of R182. -/
theorem faults_eq_nil_iff : s.faults = [] ↔ s.Safe := by
  cases gapv : s.gapv <;> cases ill : s.ill <;> simp [State.faults, State.Safe, gapv, ill]

/-- A step to a state with GAPV = 0 and ILL = 0 is judged good. -/
theorem judgedStep_of_safe (stepped : step s = .next t) (safe : t.Safe) : judgedStep s = .next t := by
  simp [judgedStep, stepped, faults_eq_nil_iff.mpr safe]

/-- A step to any other state is judged a fault that stands in it. -/
theorem judgedStep_of_not_safe (stepped : step s = .next t) (notSafe : ¬ t.Safe) :
    ∃ f ∈ t.faults, judgedStep s = .fault f := by
  obtain ⟨f, rest, faults⟩ := List.exists_cons_of_ne_nil (mt faults_eq_nil_iff.mp notSafe)
  exact ⟨f, by simp [faults], by simp [judgedStep, stepped, faults]⟩

/-- Without reset a state with GAPV = 0 and ILL = 0 comes from such a state alone, since the bits are sticky (R184). -/
theorem safe_of_step_safe (resetLow : s.port.reset = false) (stepped : step s = .next t) (safe : t.Safe) : s.Safe := by
  obtain ⟨gapv, ill⟩ := safe
  rw [step_gapv resetLow stepped, Bool.or_eq_false_iff] at gapv
  rw [step_ill resetLow stepped, Bool.or_eq_false_iff] at ill
  exact ⟨gapv.left, ill.left⟩

/-- Settles O29: the judgement of a step looks at the state the step leads to, and a fault in it stays. -/
theorem judgementFaultsFromThatCycleOn : Obligations.JudgementFaultsFromThatCycleOn := by
  intro s t stepped
  refine ⟨judgedStep_of_safe stepped,
    fun notSafe => ⟨judgedStep_of_not_safe stepped notSafe, fun resetLow => ?_⟩⟩
  obtain ⟨u, next⟩ := step_completes t
  obtain ⟨f, -, judged⟩ := judgedStep_of_not_safe next (mt (safe_of_step_safe resetLow next) notSafe)
  exact ⟨f, judged⟩

end Sys2Proof.Machine

/-! PROOF. Reset (R210 to R212) and the hazards (R216 to R219): the sticky bits, the servo line between services, the
ticks that a frame loses, the reset gap, and the hold of the host. -/

namespace Sys2Proof.Machine

open Config

variable {s t : State} {n : Nat} {r g b : Channel}

/-! ### Reset -/

/-- Settles O22: under RESET no word is accepted, and the reset state leaves the inputs alone. -/
theorem resetCycle : Obligations.ResetCycle := by
  intro s reset
  exact ⟨by simp [acceptedWord, reset], _, step_of_reset reset, rfl⟩

/-- Settles O23: the reset state holds the values of R212 by definition, and they meet the invariants. -/
theorem resetValues : Obligations.ResetValues := fun p =>
  ⟨rfl, rfl, rfl, rfl, rfl, rfl, rfl, rfl, rfl, rfl, rfl, rfl, rfl, rfl, rfl, rfl, State.resetWith_inv p⟩

/-- Settles O25: the implementation's parameters are a legal tuple. -/
theorem resetMeetsInvariants : Obligations.ResetMeetsInvariants := State.resetWith_inv Config.params

/-- Settles O27: a sticky bit after a cycle without reset is its old value or a condition that sets it (O28). -/
theorem stickyBitsClearedOnlyByReset : Obligations.StickyBitsClearedOnlyByReset := by
  intro s t stepped
  constructor
  · intro reset
    cases stepped.symm.trans (step_of_reset reset)
    exact ⟨rfl, rfl, rfl⟩
  · intro resetLow
    obtain ⟨tovr, gapv, ill⟩ := stickyBitsSetOnCondition s t resetLow stepped
    exact ⟨fun set => by simp [tovr, set], fun set => by simp [gapv, set], fun set => by simp [ill, set]⟩

/-! ### The servo line between services -/

/-- Without a WR.PW accepted PW holds (R140). -/
theorem step_pw_of_ne_wrPw (resetLow : s.port.reset = false) (noWrite : ∀ v, acceptedInstr s ≠ some (.wrPw v))
    (stepped : step s = .next t) : t.pw = s.pw := by
  refine step_pw_of_no_wrPw resetLow (fun i accepted => ?_) stepped
  rw [← Bool.not_eq_true, isWrPw_eq_true]
  rintro ⟨v, rfl⟩
  exact noWrite v accepted

/-- Settles O34: a service compares the FT it sets with PW, and a cycle without one keeps both sides of the comparison. -/
theorem servoLevelFollowsCompare : Obligations.ServoLevelFollowsCompare := by
  intro s t resetLow noWrite stepped before
  rw [step_pw_of_ne_wrPw resetLow noWrite stepped]
  by_cases service : s.tpend = true ∧ s.busy = false
  · obtain ⟨pending, idle⟩ := service
    exact step_servoOut_of_service resetLow pending idle stepped
  · have noService : s.tpend = false ∨ s.busy = true := by
      simpa only [not_and_or, Bool.not_eq_true, Bool.not_eq_false] using service
    obtain ⟨servoOut, ft, -⟩ := noServiceNoServoChange s t resetLow noService stepped
    rw [servoOut, ft]
    exact before.resolve_left service

/-! ### What a run keeps -/

/-- What holds at the start of a run and is kept by each of its cycles holds at its end. -/
theorem run_induction {P : State → Prop} (initially : P s)
    (kept : ∀ k < n, ∀ u v, core.run k s = .next u → P u → step u = .next v → P v)
    (ran : core.run n s = .next t) : P t := by
  induction n generalizing t with
  | zero => cases ran; exact initially
  | succ n ih =>
    obtain ⟨u, first, stepped⟩ := run_succ_eq_next_last.mp ran
    exact kept n n.lt_succ_self u t first (ih (fun k early => kept k (by omega)) first) stepped

/-- No run writes the parameters (R214). -/
theorem run_params (ran : core.run n s = .next t) : t.params = s.params :=
  run_induction (P := fun u => u.params = s.params) rfl
    (fun _ _ _ _ _ before stepped => (step_params stepped).trans before) ran

/-- RESET is low in every cycle of a run in which no reset comes. -/
theorem State.NoReset.duringRun {k : Nat} {u : State} (noReset : s.NoReset n) (inRange : k < n)
    (ran : core.run k s = .next u) : u.port.reset = false :=
  State.NoReset.after (fun j early => noReset j (by omega)) ran

/-- What is never offered in a run is not offered in any of its cycles. -/
theorem State.NeverOffers.duringRun {what : Instr → Bool} {k : Nat} {u : State} (never : s.NeverOffers what 0 n)
    (inRange : k < n) (ran : core.run k s = .next u) : u.offersAt what 0 = false := by
  rw [run_offersAt ran, Nat.zero_add]
  exact never k inRange (Nat.zero_le k)

/-! ### Disabled ticks -/

/-- With ticks off and none pending, a cycle that is not offered a WR.CTRL 1 leaves them so (R130, R131). -/
theorem step_ticksOff (off : s.tickEn = false) (nonePending : s.tpend = false) (resetLow : s.port.reset = false)
    (noOn : s.offersAt isTickOn 0 = false) (stepped : step s = .next t) : t.tickEn = false ∧ t.tpend = false := by
  obtain ⟨-, tickEn, -, tpend, -⟩ := controlRegistersNext s t resetLow stepped
  constructor
  · rw [tickEn]
    split
    next e accepted =>
      cases e with
      | false => rfl
      | true => simp [offersAt_zero_of_acceptedInstr isTickOn accepted, isTickOn] at noOn
    next => exact off
  · simp [tpend, nonePending, tickEvent_of_tickEn_false off]

/-- Ticks are off with none pending, and the servo line and its counters are those of `s` (R142). -/
structure ServoFrozen (s t : State) : Prop where
  tickEn : t.tickEn = false
  tpend : t.tpend = false
  servoOut : t.servoOut = s.servoOut
  ft : t.ft = s.ft
  frm : t.frm = s.frm
  sec : t.sec = s.sec

/-- No tick comes up that could be serviced. -/
theorem ServoFrozen.next {u : State} (frozen : ServoFrozen s t) (resetLow : t.port.reset = false)
    (noOn : t.offersAt isTickOn 0 = false) (stepped : step t = .next u) : ServoFrozen s u := by
  obtain ⟨tickEn, tpend⟩ := step_ticksOff frozen.tickEn frozen.tpend resetLow noOn stepped
  obtain ⟨servoOut, ft, frm, sec⟩ := noServiceNoServoChange t u resetLow (.inl frozen.tpend) stepped
  exact ⟨tickEn, tpend, servoOut.trans frozen.servoOut, ft.trans frozen.ft, frm.trans frozen.frm,
    sec.trans frozen.sec⟩

/-- Settles O37: every cycle leaves ticks off with none pending, so none runs a service. -/
theorem disabledTicksFreezeServo : Obligations.DisabledTicksFreezeServo := by
  intro n s off nonePending noReset noOn
  obtain ⟨t, ran⟩ := run_completes n s
  have frozen : ServoFrozen s t := run_induction ⟨off, nonePending, rfl, rfl, rfl, rfl⟩
    (fun k inRange u v first before stepped =>
      before.next (noReset.duringRun inRange first) (noOn.duringRun inRange first) stepped) ran
  exact ⟨t, ran, frozen.servoOut, frozen.ft, frozen.frm, frozen.sec⟩

/-! ### Ticks lost to a frame -/

/-- At the frame end TOVR tells whether two ticks or more have come since the SEND, or one was lost before (R117). -/
theorem run_tovr_of_send (inv : s.Inv) (sends : acceptsSend s = true) (on : s.tickEn = true)
    (noReset : s.NoReset (s.params.frameCycles + 1)) (ran : core.run (s.params.frameCycles + 1) s = .next t) :
    t.tovr = (s.tovr || decide (2 ≤ (s.tph + (s.params.frameCycles + 1)) / s.params.tickCyc)) := by
  obtain ⟨r, g, b, accepted⟩ := acceptsSend_eq_true.mp sends
  obtain ⟨first, started, rest⟩ := run_succ_eq_next.mp ran
  have counted : TicksCounted s.params s.tovr (s.tph + 1 + s.params.frameCycles) t :=
    frame_induction (inFrame_of_send accepted started)
      (P := fun n => TicksCounted s.params s.tovr (s.tph + 1 + n)) (ticksCounted_of_send inv on accepted started)
      (fun _ _ _ resetLow _ busy before steps => before.next resetLow busy steps)
      le_rfl (noReset.step started) rest
  rw [counted.tovr, Nat.add_assoc, Nat.add_comm 1]

/-- The worst phase for a SEND: the block accepts it in the cycle of a tick event, so that a second event up to the frame
end is lost (R218). -/
def sendOnTick (p : Params) : State :=
  { State.resetWith p with
    tickEn := true
    tph := p.tickCyc - 1
    inputs := [{ reset := false, cmd := some (encode (.send 0#8 0#8 0#8)) }] }

theorem sendOnTick_inv (p : Params) : (sendOnTick p).Inv := by
  obtain ⟨ft, -, -, sending, lineLow, lowrun, frm⟩ := State.resetWith_inv p
  exact ⟨ft, Nat.sub_lt p.tick_pos Nat.one_pos, nofun, sending, lineLow, lowrun, frm⟩

theorem sendOnTick_noReset (p : Params) (n : Nat) : (sendOnTick p).NoReset n := by
  intro k _
  cases k <;> rfl

theorem sendOnTick_acceptsSend (p : Params) : acceptsSend (sendOnTick p) = true :=
  acceptsSend_eq_true.mpr ⟨_, _, _, acceptedInstr_of_offered rfl rfl (decode_eq_ok_iff_eq_encode.mpr rfl)⟩

/-- Settles O49: with TPH < TICK_CYC fewer than two ticks come where a frame fits in a tick, and where it does not, two
come from the last phase on. -/
theorem noTickLostIffFrameFitsTick : Obligations.NoTickLostIffFrameFitsTick := by
  intro p
  constructor
  · intro noneLost
    obtain ⟨t, ran⟩ := run_completes (p.frameCycles + 1) (sendOnTick p)
    have kept : t.tovr = false := noneLost (sendOnTick p) t rfl (sendOnTick_inv p) (sendOnTick_acceptsSend p) rfl rfl
      (sendOnTick_noReset p _) ran
    have counted := run_tovr_of_send (sendOnTick_inv p) (sendOnTick_acceptsSend p) rfl (sendOnTick_noReset p _) ran
    have notTwo : decide (2 ≤ (p.tickCyc - 1 + (p.frameCycles + 1)) / p.tickCyc) = false := counted.symm.trans kept
    have fewer := not_le.mp (of_decide_eq_false notTwo)
    rw [Nat.div_lt_iff_lt_mul p.tick_pos] at fewer
    have := p.tick_pos
    omega
  · rintro fits s t rfl inv sends on noneBefore noReset ran
    have ⟨_, phase, _⟩ := inv
    have fewer : (s.tph + (s.params.frameCycles + 1)) / s.params.tickCyc < 2 := by
      rw [Nat.div_lt_iff_lt_mul s.params.tick_pos]
      omega
    rw [run_tovr_of_send inv sends on noReset ran, noneBefore, Bool.false_or, decide_eq_false_iff_not, not_le]
    exact fewer

/-! ### The reset gap -/

/-- A SEND that is offered while RESET is low and no frame is being sent is accepted (R54). -/
theorem acceptsSend_of_offersAt (resetLow : s.port.reset = false) (idle : s.busy = false)
    (offer : s.offersAt startsFrame 0 = true) : acceptsSend s = true := by
  rw [State.offersAt, portAt_zero] at offer
  split at offer
  next => cases offer
  next w offered =>
    split at offer
    next i decodes =>
      have accepted := (acceptedInstr_eq_some s).mpr ⟨resetLow, idle, w, offered, decodes⟩
      rw [acceptsSend, accepted]
      exact offer
    next => cases offer

/-- GAPV holds over a run with no reset in which no SEND is offered (R111). -/
theorem run_keeps_gapv (noReset : s.NoReset n) (noSend : s.NeverOffers startsFrame 0 n)
    (ran : core.run n s = .next t) : t.gapv = s.gapv :=
  run_induction (P := fun u => u.gapv = s.gapv) rfl
    (fun k inRange u v first before stepped => by
      have declined := acceptsSend_of_offersAt_false (noSend.duringRun inRange first)
      rw [step_gapv (noReset.duringRun inRange first) stepped, declined, before, Bool.false_and, Bool.or_false]) ran

/-- Settles O51: LOWRUN has counted the gap when the SEND comes (O50), and only then is GAPV written. -/
theorem gapAvoidedIffLongEnough : Obligations.GapAvoidedIffLongEnough := by
  intro n s idle low lowrun clear noReset noSend offer
  have noResetGap : s.NoReset n := fun k early => noReset k (by omega)
  obtain ⟨t, gap, idleThen, -, counted⟩ :=
    lowrunCountsGap n s idle low (lowrun ▸ s.params.tReset_pos) noResetGap noSend
  obtain ⟨u, stepped⟩ := step_completes t
  have resetLow : t.port.reset = false := noReset.after gap
  have offerThen : t.offersAt startsFrame 0 = true := by rw [run_offersAt gap, Nat.zero_add, offer]
  have sends := acceptsSend_of_offersAt resetLow idleThen offerThen
  obtain ⟨r, g, b, accepted⟩ := acceptsSend_eq_true.mp sends
  refine ⟨u, run_succ_eq_next_last.mpr ⟨t, gap, stepped⟩, (inFrame_of_send accepted stepped).busy, ?_⟩
  rw [step_gapv resetLow stepped, run_keeps_gapv noResetGap noSend gap, clear, sends, counted, lowrun, run_params gap,
    Bool.false_or, Bool.true_and, decide_eq_false_iff_not]
  omega

/-! ### The hold of the host -/

variable {h j k : HostRun} {items : List HostItem}

/-- A cycle of host and block is the block's step with the host's offer at its port (R94). -/
theorem HostRun.step_of_block (stepped : Machine.step h.presented = .next t) :
    h.step = .next { program := afterCycle h.block.busy h.program, block := t } := by
  rw [HostRun.step, stepped]

/-- A run of host and block goes on with the next cycle. -/
theorem HostRun.run_succ_of_step (ran : HostRun.run n h = .next j) (stepped : j.step = .next k) :
    HostRun.run (n + 1) h = .next k := by
  induction n generalizing h with
  | zero =>
    cases ran
    rw [HostRun.run, stepped]
    rfl
  | succ n ih =>
    rw [HostRun.run] at ran ⊢
    cases first : h.step with
    | next h' =>
      rw [first] at ran
      exact ih ran
    | fault r => rw [first] at ran; cases ran
    | refused r => rw [first] at ran; cases ran

/-- The host's offer leaves the frame that the block is sending alone. -/
theorem InFrame.presented {p : Params} {f : Frame} (sending : InFrame p f n h.block) : InFrame p f n h.presented := by
  obtain ⟨params, busy, encN, encFrame, ledDout, rsp⟩ := sending
  exact ⟨params, busy, encN, encFrame, ledDout, rsp⟩

/-- While a frame is being sent, the host stays at its program (R54, R94). -/
theorem HostRun.step_of_busy (busy : h.block.busy = true) (stepped : Machine.step h.presented = .next t) :
    h.step = .next { program := h.program, block := t } := by
  rw [HostRun.step_of_block stepped, busy]
  rfl

/-- With no frame running the SEND that a host offers is accepted, and the host goes on to its next item. -/
theorem HostRun.step_of_send (idle : h.block.busy = false)
    (program : h.program = .command (encode (.send r g b)) :: items) :
    ∃ k, h.step = .next k ∧ k.program = items ∧ InFrame h.block.params (g ++ r ++ b) 0 k.block := by
  have offered : h.presented.port = { reset := false, cmd := some (encode (.send r g b)) } := by
    rw [HostRun.presented, program]
    rfl
  have accepted : acceptedInstr h.presented = some (.send r g b) :=
    acceptedInstr_of_offered offered idle (decode_eq_ok_iff_eq_encode.mpr rfl)
  obtain ⟨t, stepped⟩ := step_completes h.presented
  have start : InFrame h.presented.params (g ++ r ++ b) 0 t := inFrame_of_send accepted stepped
  refine ⟨_, HostRun.step_of_block stepped, ?_, start⟩
  rw [idle, program]
  rfl

/-- `n` cycles after the SEND the host is held at its next item, and the block drives cycle `n` of the frame (R102). -/
theorem HostRun.run_inFrame (idle : h.block.busy = false)
    (program : h.program = .command (encode (.send r g b)) :: items) (inRange : n < h.block.params.frameCycles) :
    ∃ k, HostRun.run (n + 1) h = .next k ∧ k.program = items ∧
      InFrame h.block.params (g ++ r ++ b) n k.block := by
  induction n with
  | zero =>
    obtain ⟨k, stepped, held, sending⟩ := HostRun.step_of_send idle program
    exact ⟨k, HostRun.run_succ_of_step rfl stepped, held, sending⟩
  | succ n ih =>
    obtain ⟨k, ran, held, sending⟩ := ih (by omega)
    obtain ⟨t, stepped⟩ := step_completes k.presented
    exact ⟨_, HostRun.run_succ_of_step ran (HostRun.step_of_busy sending.busy stepped), held,
      sending.presented.next inRange rfl stepped⟩

/-- When the frame has ended, the host is still at the item after its SEND (R109). -/
theorem HostRun.run_frameEnded (idle : h.block.busy = false)
    (program : h.program = .command (encode (.send r g b)) :: items) :
    ∃ k, HostRun.run (h.block.params.frameCycles + 1) h = .next k ∧ k.program = items ∧
      FrameEnded h.block.params k.block := by
  obtain ⟨last, eq⟩ : ∃ last, h.block.params.frameCycles = last + 1 :=
    Nat.exists_eq_add_one.mpr h.block.params.frameCycles_pos
  obtain ⟨k, ran, held, sending⟩ := HostRun.run_inFrame idle program (n := last) (by omega)
  obtain ⟨t, stepped⟩ := step_completes k.presented
  rw [eq]
  exact ⟨_, HostRun.run_succ_of_step ran (HostRun.step_of_busy sending.busy stepped), held,
    sending.presented.ends eq.symm rfl stepped⟩

/-- The block accepts no word that a host offers while a frame is being sent (R54). -/
theorem HostRun.acceptedWord_of_busy (busy : h.block.busy = true) : acceptedWord h.presented = none := by
  have busyThen : h.presented.busy = true := busy
  simp [acceptedWord, busyThen]

/-- With no frame running the block accepts the word that a host offers (R54). -/
theorem HostRun.acceptedWord_of_idle (idle : h.block.busy = false) : acceptedWord h.presented = offerOf h.program := by
  have idleThen : h.presented.busy = false := idle
  have offered : h.presented.port = { reset := false, cmd := offerOf h.program } := rfl
  simp [acceptedWord, idleThen, offered]

/-- Settles O52: the frame runs in every cycle up to its end, and after it the block accepts the host's offer. -/
theorem hostHeldForWholeFrame : Obligations.HostHeldForWholeFrame := by
  intro h r g b w rest idle program
  constructor
  · intro n positive inRange
    obtain ⟨m, rfl⟩ := Nat.exists_eq_add_of_le' positive
    obtain ⟨k, ran, held, sending⟩ := HostRun.run_inFrame idle program inRange
    exact ⟨k, ran, held, HostRun.acceptedWord_of_busy sending.busy⟩
  · obtain ⟨k, ran, held, ended⟩ := HostRun.run_frameEnded idle program
    refine ⟨k, ran, held, ?_⟩
    rw [HostRun.acceptedWord_of_idle ended.busy, held]
    rfl

end Sys2Proof.Machine
